-- ==== Sys2Proof/Word.lean ====
section
/-! DEFINITION. The values the block moves: bytes, 16-bit numbers and byte sequences (00_scope.md R8). -/

namespace Sys2Proof

/-- An unsigned 8-bit value (R8). -/
abbrev Byte := BitVec 8

/-- An unsigned 16-bit value (R8). -/
abbrev U16 := BitVec 16

/-- A byte sequence: a finite list of bytes whose offset counts from 0, the first byte first on the wire (R8). -/
abbrev Bytes := List Byte

end Sys2Proof
end

