-- ==== Sys2Proof/Syntax.lean ====
section
/-! DEFINITION. The requests a host presents (30_encoding.md R49, 10_state.md R18) and the operations they select
(R48), one constructor of `Instr` for each row of the operation map, carrying the operands of its row. -/

namespace Sys2Proof

/-- A request: the selector `OPSEL`, the operand ports of 10_state.md R18 with their widths, and `IBUF` (R49). A port
left out of a literal is zero, and `ibuf` empty. -/
structure Request where
  opsel    : Byte
  kind     : U16 := 0
  cid      : Byte := 0
  addr     : BitVec 14 := 0
  taddr    : BitVec 14 := 0
  mag      : BitVec 7 := 0
  fwd      : BitVec 1 := 0
  pct      : BitVec 8 := 0
  mode     : BitVec 2 := 0
  action   : BitVec 2 := 0
  index    : Byte := 0
  output   : Byte := 0
  activate : BitVec 1 := 0
  queue    : BitVec 1 := 0
  ibuf     : Bytes := []
deriving DecidableEq, Repr

/-- The operations of the block and of its optional extension (R48), with the operands each row names. -/
inductive Instr where
  | envEnc   (kind : U16) (payload : Bytes)
  | envDec   (buffer : Bytes)
  | envScan  (buffer : Bytes)
  | xorfold  (bytes : Bytes)
  | subEnc   (cid : Byte) (data : Bytes)
  | subDec   (bytes : Bytes)
  | addrEnc  (addr : BitVec 14)
  | taddrEnc (taddr : BitVec 14)
  | spdPack  (mag : BitVec 7) (fwd : BitVec 1)
  | pct2mag  (mode : BitVec 2) (pct : BitVec 8)
  | fnPack   (action : BitVec 2) (index : Byte)
  | trnPack  (output : Byte) (activate queue : BitVec 1)
  | pwrOn
  | pwrOff
  | verReq
  | fwverReq
  | locoInfo  (addr : BitVec 14)
  | locoDrive (mode : BitVec 2) (addr : BitVec 14) (mag : BitVec 7) (fwd : BitVec 1)
  | locoFunc  (addr : BitVec 14) (action : BitVec 2) (index : Byte)
  | trnInfo   (taddr : BitVec 14)
  | trnSet    (taddr : BitVec 14) (output : Byte) (activate queue : BitVec 1)
  | cmdWrap   (cid : Byte) (data : Bytes)
  | ekind     (buffer : Bytes)
  | stepDec   (bytes : Bytes)
  | addrDec   (bytes : Bytes)
  | locoStat  (bytes : Bytes)
  | trnStat   (bytes : Bytes)
  | sysTelem  (bytes : Bytes)
  | rfbDec    (bytes : Bytes)
deriving DecidableEq, Repr

end Sys2Proof
end

