-- ==== Sys2Proof/Decode.lean ====
section
/-! DEFINITION. The operation map (30_encoding.md R48): from a request to the operation it selects, or a rejection by
name, and the encoder the other way. The spec packs no request into a word (R49), so the "word" of an operation is its
8-bit selector and its operands are the ports beside it. -/

namespace Sys2Proof

/-- Why a request selects no operation (R51). -/
inductive DecodeError where
  | unknownSelector (opsel : Byte)
deriving DecidableEq, Repr

/-- A row of the operation map: the selector, the mnemonic, the request with the ports the row does not name left out
(R49: "the others are ignored"), and the operation. -/
structure OpRow where
  opsel    : Byte
  mnemonic : String
  operands : Request → Request
  build    : Request → Instr

/-- Rows 0x01 to 0x12: the framers. -/
def framerRows : List OpRow := [
  ⟨0x01, "ENV.ENC", fun r => { opsel := r.opsel, kind := r.kind, ibuf := r.ibuf }, fun r => .envEnc r.kind r.ibuf⟩,
  ⟨0x02, "ENV.DEC", fun r => { opsel := r.opsel, ibuf := r.ibuf }, fun r => .envDec r.ibuf⟩,
  ⟨0x03, "ENV.SCAN", fun r => { opsel := r.opsel, ibuf := r.ibuf }, fun r => .envScan r.ibuf⟩,
  ⟨0x10, "XORFOLD", fun r => { opsel := r.opsel, ibuf := r.ibuf }, fun r => .xorfold r.ibuf⟩,
  ⟨0x11, "SUB.ENC", fun r => { opsel := r.opsel, cid := r.cid, ibuf := r.ibuf }, fun r => .subEnc r.cid r.ibuf⟩,
  ⟨0x12, "SUB.DEC", fun r => { opsel := r.opsel, ibuf := r.ibuf }, fun r => .subDec r.ibuf⟩]

/-- Rows 0x20 to 0x25: the field encoders. -/
def fieldRows : List OpRow := [
  ⟨0x20, "ADDR.ENC", fun r => { opsel := r.opsel, addr := r.addr }, fun r => .addrEnc r.addr⟩,
  ⟨0x21, "TADDR.ENC", fun r => { opsel := r.opsel, taddr := r.taddr }, fun r => .taddrEnc r.taddr⟩,
  ⟨0x22, "SPD.PACK", fun r => { opsel := r.opsel, mag := r.mag, fwd := r.fwd }, fun r => .spdPack r.mag r.fwd⟩,
  ⟨0x23, "PCT2MAG", fun r => { opsel := r.opsel, mode := r.mode, pct := r.pct }, fun r => .pct2mag r.mode r.pct⟩,
  ⟨0x24, "FN.PACK", fun r => { opsel := r.opsel, action := r.action, index := r.index },
    fun r => .fnPack r.action r.index⟩,
  ⟨0x25, "TRN.PACK", fun r => { opsel := r.opsel, output := r.output, activate := r.activate, queue := r.queue },
    fun r => .trnPack r.output r.activate r.queue⟩]

/-- Rows 0x30 to 0x3F: the command builders and the wrap. -/
def builderRows : List OpRow := [
  ⟨0x30, "PWR.ON", fun r => { opsel := r.opsel }, fun _ => .pwrOn⟩,
  ⟨0x31, "PWR.OFF", fun r => { opsel := r.opsel }, fun _ => .pwrOff⟩,
  ⟨0x32, "VER.REQ", fun r => { opsel := r.opsel }, fun _ => .verReq⟩,
  ⟨0x33, "FWVER.REQ", fun r => { opsel := r.opsel }, fun _ => .fwverReq⟩,
  ⟨0x34, "LOCO.INFO", fun r => { opsel := r.opsel, addr := r.addr }, fun r => .locoInfo r.addr⟩,
  ⟨0x35, "LOCO.DRIVE", fun r => { opsel := r.opsel, mode := r.mode, addr := r.addr, mag := r.mag, fwd := r.fwd },
    fun r => .locoDrive r.mode r.addr r.mag r.fwd⟩,
  ⟨0x36, "LOCO.FUNC", fun r => { opsel := r.opsel, addr := r.addr, action := r.action, index := r.index },
    fun r => .locoFunc r.addr r.action r.index⟩,
  ⟨0x37, "TRN.INFO", fun r => { opsel := r.opsel, taddr := r.taddr }, fun r => .trnInfo r.taddr⟩,
  ⟨0x38, "TRN.SET",
    fun r => { opsel := r.opsel, taddr := r.taddr, output := r.output, activate := r.activate, queue := r.queue },
    fun r => .trnSet r.taddr r.output r.activate r.queue⟩,
  ⟨0x3F, "CMD.WRAP", fun r => { opsel := r.opsel, cid := r.cid, ibuf := r.ibuf }, fun r => .cmdWrap r.cid r.ibuf⟩]

/-- Rows 0x40 to 0x46: the optional extension. -/
def extensionRows : List OpRow := [
  ⟨0x40, "EKIND", fun r => { opsel := r.opsel, ibuf := r.ibuf }, fun r => .ekind r.ibuf⟩,
  ⟨0x41, "STEP.DEC", fun r => { opsel := r.opsel, ibuf := r.ibuf }, fun r => .stepDec r.ibuf⟩,
  ⟨0x42, "ADDR.DEC", fun r => { opsel := r.opsel, ibuf := r.ibuf }, fun r => .addrDec r.ibuf⟩,
  ⟨0x43, "LOCO.STAT", fun r => { opsel := r.opsel, ibuf := r.ibuf }, fun r => .locoStat r.ibuf⟩,
  ⟨0x44, "TRN.STAT", fun r => { opsel := r.opsel, ibuf := r.ibuf }, fun r => .trnStat r.ibuf⟩,
  ⟨0x45, "SYS.TELEM", fun r => { opsel := r.opsel, ibuf := r.ibuf }, fun r => .sysTelem r.ibuf⟩,
  ⟨0x46, "RFB.DEC", fun r => { opsel := r.opsel, ibuf := r.ibuf }, fun r => .rfbDec r.ibuf⟩]

/-- The operation map of R48. -/
def operationMap : List OpRow := framerRows ++ fieldRows ++ builderRows ++ extensionRows

/-- The row a selector names, if any. -/
def rowOf (opsel : Byte) : Option OpRow := operationMap.find? fun row => row.opsel == opsel

/-- The operation a request selects; a selector outside R48 selects none (R51). -/
def decode (r : Request) : Except DecodeError Instr :=
  match rowOf r.opsel with
  | some row => .ok (row.build r)
  | none => .error (.unknownSelector r.opsel)

/-- The request as its row reads it: the ports the row does not name are ignored (R49), here set to zero. -/
def Request.read (r : Request) : Request :=
  match rowOf r.opsel with
  | some row => row.operands r
  | none => r

/-- The request that selects an operation with its operands, every other port zero. -/
def encode : Instr → Request
  | .envEnc kind payload => { opsel := 0x01, kind := kind, ibuf := payload }
  | .envDec buffer => { opsel := 0x02, ibuf := buffer }
  | .envScan buffer => { opsel := 0x03, ibuf := buffer }
  | .xorfold bytes => { opsel := 0x10, ibuf := bytes }
  | .subEnc cid data => { opsel := 0x11, cid := cid, ibuf := data }
  | .subDec bytes => { opsel := 0x12, ibuf := bytes }
  | .addrEnc addr => { opsel := 0x20, addr := addr }
  | .taddrEnc taddr => { opsel := 0x21, taddr := taddr }
  | .spdPack mag fwd => { opsel := 0x22, mag := mag, fwd := fwd }
  | .pct2mag mode pct => { opsel := 0x23, mode := mode, pct := pct }
  | .fnPack action index => { opsel := 0x24, action := action, index := index }
  | .trnPack output activate queue => { opsel := 0x25, output := output, activate := activate, queue := queue }
  | .pwrOn => { opsel := 0x30 }
  | .pwrOff => { opsel := 0x31 }
  | .verReq => { opsel := 0x32 }
  | .fwverReq => { opsel := 0x33 }
  | .locoInfo addr => { opsel := 0x34, addr := addr }
  | .locoDrive mode addr mag fwd => { opsel := 0x35, mode := mode, addr := addr, mag := mag, fwd := fwd }
  | .locoFunc addr action index => { opsel := 0x36, addr := addr, action := action, index := index }
  | .trnInfo taddr => { opsel := 0x37, taddr := taddr }
  | .trnSet taddr output activate queue =>
      { opsel := 0x38, taddr := taddr, output := output, activate := activate, queue := queue }
  | .cmdWrap cid data => { opsel := 0x3F, cid := cid, ibuf := data }
  | .ekind buffer => { opsel := 0x40, ibuf := buffer }
  | .stepDec bytes => { opsel := 0x41, ibuf := bytes }
  | .addrDec bytes => { opsel := 0x42, ibuf := bytes }
  | .locoStat bytes => { opsel := 0x43, ibuf := bytes }
  | .trnStat bytes => { opsel := 0x44, ibuf := bytes }
  | .sysTelem bytes => { opsel := 0x45, ibuf := bytes }
  | .rfbDec bytes => { opsel := 0x46, ibuf := bytes }

/-- The request of a row of spec/opcode_table.json whose 8 bits are `w`: the selector, and every port and `IBUF` zero,
because the table gives the operands no bits. -/
def tableRequest (w : Nat) : Request := { opsel := BitVec.ofNat 8 w }

/-- What the decoder reads from a table row of `nbits` bits numbered `w`; every row has the 8 bits of `OPSEL`. -/
def decodeTableWord (nbits w : Nat) : Option Instr :=
  if nbits = 8 then (decode (tableRequest w)).toOption else none

end Sys2Proof
end

