-- ==== Sys2Proof/Config.lean ====
section
/-! DEFINITION. What the host supplies before the first operation, `Cfg` (00_scope.md R7, 70_reset_and_hazards.md R172,
R173), as one opaque constant, and the free values of what the spec leaves without a value. -/

namespace Sys2Proof

/-- The throttle step modes 14, 28 and 128 (30_encoding.md R46). -/
inductive StepMode where
  | s14 | s28 | s128
deriving DecidableEq, Repr

/-- The constants the document names without a value (R7), every field of the table. The broadcast masks have no
stated width. -/
structure Cfg where
  kindCmdWrapper      : U16
  kindSerialQuery     : U16
  kindLogout          : U16
  kindDiscovery       : U16
  kindSetBcastFlags   : U16
  kindSystelemChanged : U16
  kindSystelemRequest : U16
  cidPower       : Byte
  dataPowerOff   : Byte
  cidVersion     : Byte
  dataVersion    : Byte
  cidFwversion   : Byte
  dataFwversion  : Byte
  cidLocoInfo    : Byte
  subidLocoInfo  : Byte
  cidLocoDrive   : Byte
  prefix14       : Byte
  prefix28       : Byte
  prefix128      : Byte
  cidLocoFunc    : Byte
  subidLocoFunc  : Byte
  cidTrnInfo     : Byte
  cidTrnSet      : Byte
  cidLocoInfoBcast : Byte
  cidPowerBcast    : Byte
  trnFixed  : Byte
  trnQBit   : Fin 8
  trnABit   : Fin 8
  trnPBit   : Fin 8
  trnRsvBit : Fin 8
  maxMag14  : Nat
  maxMag28  : Nat
  maxMag128 : Nat
  /-- `PCTDEC`: step mode, forward bit and magnitude to a signed percentage (44_adjacent_decoders.md R133, D30). The
  spec gives the percentage no number format; whole numbers are the model's DESIGN CHOICE (entry 15). -/
  pctdec    : StepMode → Bool → BitVec 7 → Int
  trnAddrMarker : Bool
  bcastLocoInfo           : Nat
  bcastTrnInfo            : Nat
  bcastFeedbackSubscribed : Nat
  bcastSystemState        : Nat
  bcastFeedbackAll        : Nat
deriving Inhabited

/-- The constraints of R173: four different turnout bit positions in 0 to 6, `TRN_FIXED` 0 where an operand goes,
maxima of at least 1, and a wrapper kind unlike every other kind. The field ranges are the fields' types. -/
structure Cfg.WellFormed (c : Cfg) : Prop where
  positionsDiffer : [c.trnQBit, c.trnABit, c.trnPBit, c.trnRsvBit].Nodup
  positionsBelow7 : c.trnQBit < 7 ∧ c.trnABit < 7 ∧ c.trnPBit < 7 ∧ c.trnRsvBit < 7
  fixedClear : c.trnFixed.getLsbD c.trnQBit = false ∧ c.trnFixed.getLsbD c.trnABit = false ∧
    c.trnFixed.getLsbD c.trnPBit = false
  maximaPositive : 1 ≤ c.maxMag14 ∧ 1 ≤ c.maxMag28 ∧ 1 ≤ c.maxMag128
  wrapperAlone : c.kindCmdWrapper ∉ [c.kindSerialQuery, c.kindLogout, c.kindDiscovery, c.kindSetBcastFlags,
    c.kindSystelemChanged, c.kindSystelemRequest]

/-- The values the spec decides for fields of `Cfg`: `MAXMAG_128` is 128 (42_field_encoders.md R95, D16), and `PCTDEC`
is positive for forward with a non-zero magnitude at 128 steps (R133, D30). DEDUCED (entry 9). -/
structure Cfg.Decided (c : Cfg) : Prop where
  maxMag128_eq : c.maxMag128 = 128
  pctdec_pos : ∀ mag : BitVec 7, mag ≠ 0 → 0 < c.pctdec .s128 true mag

/-- A `Cfg` inside the interface contract: a host that supplies another is refused (93 section 1 #34). The default
values only show that the type has a member, which an opaque constant needs; `Config.supplied` is not equal to them by
any proof. DESIGN CHOICE (entry 1). -/
structure SuppliedCfg where
  cfg : Cfg := { (default : Cfg) with
    kindCmdWrapper := 1, trnQBit := 0, trnABit := 1, trnPBit := 2, trnRsvBit := 3,
    maxMag14 := 1, maxMag28 := 1, maxMag128 := 128, pctdec := fun _ _ _ => 1 }
  wellFormed : cfg.WellFormed := by constructor <;> decide
  decided : cfg.Decided := by constructor <;> decide
deriving Inhabited

/-- The configuration the host supplied before the first operation; it never changes (R172). No value of a field is
known but what `Cfg.WellFormed` and `Cfg.Decided` say. -/
opaque Config.supplied : SuppliedCfg

/-- The configuration record every operation reads. -/
def Config.cfg : Cfg := Config.supplied.cfg

/-- ACC after the operation numbered by the argument: any value (93 section 1 #31). Free value (entry 4). -/
opaque Config.freeAcc : Nat → BitVec 8

/-- LEN after an operation: any value (93 section 1 #31). Free value (entry 4). -/
opaque Config.freeLen : Nat → BitVec 17

/-- POS after an operation: any value (93 section 1 #31). Free value (entry 4). -/
opaque Config.freePos : Nat → Nat

/-- IBUF after an operation: any value (93 section 1 #31). Free value (entry 4). -/
opaque Config.freeInput : Nat → Bytes

/-- The result of STEP.DEC given other than the one status byte of R131: not stated. A function of the operand, as
10_state.md R15 requires. Free value (entry 6). -/
opaque Config.freeStepMode : Bytes → Option StepMode

end Sys2Proof
end

