-- ==== Sys2Proof/Machine/State.lean ====
section
/-! DEFINITION. The state of the block as plain data (10_state.md R11 to R19), the response it gives (30_encoding.md
R50), what the host presents to it (R14, R49), and its value after reset (R19, R170). -/

namespace Sys2Proof.Machine

/-- The five synchronous errors (60_exceptions.md R150). -/
inductive ErrorKind where
  /-- "buffer too short for declared/minimum length". -/
  | framingError
  /-- Sub-frame decode given "fewer than 2 bytes" (C3). -/
  | checksumError
  /-- "sub-frame checksum invalid". -/
  | checksumMismatch
  /-- "caller-supplied parameter outside protocol-legal range". -/
  | rangeError
  /-- "state-decoder payload length outside allowed fixed/minimum". -/
  | lengthError
deriving DecidableEq, Repr

/-- `STATUS`: `OK` or an error (10_state.md R13); codes 6 and 7 are never written and have no value here. -/
inductive Status where
  | ok
  | error (e : ErrorKind)
deriving DecidableEq, Repr

/-- An envelope as the decoders give it: kind and payload (40_envelope.md R62, R64). -/
structure Envelope where
  kind    : U16
  payload : Bytes
deriving DecidableEq, Repr

/-- A sub-frame command (43_command_builders.md R110). -/
structure Command where
  commandId : Byte
  data      : Bytes
deriving DecidableEq, Repr

/-- The locomotive status record; an absent field is `none` and is never defaulted (44_adjacent_decoders.md R133,
R137). The function table is absent as a whole or has 32 entries, F0 first, each absent where its byte was not given
(C8). -/
structure LocoStatus where
  address        : BitVec 14
  busy           : Option Bool
  stepMode       : Option StepMode
  forward        : Option Bool
  magnitude      : Option (BitVec 7)
  /-- The value of `Cfg.PCTDEC`, a whole number by the model's DESIGN CHOICE: the spec gives the signed percentage no
  number format (entry 15). -/
  speedPct       : Option Int
  doubleTraction : Option Bool
  smartSearch    : Option Bool
  functions      : Option (List (Option Bool))
deriving DecidableEq, Repr

/-- The turnout position codes 0 to 3; `invalid` is a value and no error (R134). -/
inductive Position where
  | unknown | p0 | p1 | invalid
deriving DecidableEq, Repr

/-- The turnout status record; the address keeps all 16 bits (R134). -/
structure TurnoutStatus where
  address  : U16
  position : Position
deriving DecidableEq, Repr

/-- The system telemetry record: the ten fields of R135 in wire order and the three derived flags. The reserved byte is
carried as it stands and has no meaning (entry 7). -/
structure Telemetry where
  current1        : Int
  current2        : Int
  currentFiltered : Int
  temperature     : Int
  voltage1        : U16
  voltage2        : U16
  state           : Byte
  stateEx         : Byte
  reserved        : Byte
  capabilities    : Byte
  trackOff        : Bool
  shortCircuit    : Bool
  programmingMode : Bool
deriving DecidableEq, Repr

/-- The rich feedback record: the fields of R136 in wire order. The reserved bytes are carried as they stand and have no
meaning (entry 7). -/
structure Feedback where
  address        : U16
  receiveCounter : BitVec 32
  errorCounter   : U16
  reserved1      : Byte
  options        : Byte
  speed          : Byte
  qos            : Byte
  reserved2      : Byte
deriving DecidableEq, Repr

/-- The result of a response, one alternative for each form of the column "result when OK" of R48. -/
inductive Result where
  /-- No result: after reset, or when an operation raised (R50). -/
  | none
  /-- The result is the byte sequence `OBUF`: ENV.ENC, SUB.ENC, the field encoders that give bytes, CMD.WRAP. -/
  | output
  /-- XORFOLD. -/
  | byte (b : Byte)
  /-- ENV.DEC: kind, payload, bytes consumed. -/
  | envelope (e : Envelope) (consumed : Nat)
  /-- ENV.SCAN: the envelopes decoded, standing beside the final status (R65). -/
  | envelopes (es : List Envelope)
  /-- SUB.DEC and the builders. -/
  | command (c : Command)
  /-- PCT2MAG. -/
  | magnitude (mag : BitVec 7) (fwd : BitVec 1)
  /-- EKIND. -/
  | effectiveKind (k : U16)
  /-- STEP.DEC; `none` is "absent". -/
  | stepMode (m : Option StepMode)
  /-- ADDR.DEC. -/
  | address (a : BitVec 14)
  /-- LOCO.STAT. -/
  | locoStatus (r : LocoStatus)
  /-- TRN.STAT. -/
  | turnoutStatus (r : TurnoutStatus)
  /-- SYS.TELEM. -/
  | telemetry (r : Telemetry)
  /-- RFB.DEC. -/
  | feedback (r : Feedback)
deriving DecidableEq, Repr

/-- What the host does next to the block: presents a request (10_state.md R14), resets it between operations (R170), or
resets it while the request's operation is running (R171). -/
inductive HostInput where
  | request (r : Request)
  | reset
  | resetDuring (r : Request)
deriving DecidableEq, Repr

/-- What stops the machine for good: nothing. An operation's error is a next state (R155), no read goes beyond the end
of `IBUF` (20_memory.md R25), and there is no other fault in the spec, so the type has no constructor. -/
inductive Fault where
deriving DecidableEq, Repr

/-- Why a request is refused: it is outside the interface contract and the spec gives it no meaning (R158). Every one
is SAFE: the model stops where a build does something nothing may rely on. -/
inductive Refusal where
  /-- Raised by an arm of `exec` that has no meaning yet; SAFE. No arm is such. -/
  | notModelled (mnemonic : String)
  /-- Raised by the step on an `OPSEL` outside R48 (R51); SAFE. -/
  | unknownSelector (opsel : Byte)
  /-- Raised by PCT2MAG and LOCO.DRIVE on `mode = 3` (R95, R116); SAFE. -/
  | illegalMode
  /-- Raised by FN.PACK and LOCO.FUNC on `action = 3` (R96, R117); SAFE. -/
  | illegalAction
  /-- Raised by ADDR.ENC, LOCO.INFO, LOCO.DRIVE and LOCO.FUNC on an address outside 1 to 9999 (R91); SAFE. -/
  | locoAddressOutsideDomain (addr : BitVec 14)
  /-- Raised by ENV.ENC on a payload longer than `MAX_PAYLOAD` (R61); SAFE. -/
  | payloadTooLong (length : Nat)
  /-- Raised by CMD.WRAP on data longer than `MAX_DATA` (R120); SAFE. -/
  | dataTooLong (length : Nat)
deriving DecidableEq, Repr

end Sys2Proof.Machine

namespace Sys2Proof.Machine

/-- The state: `STATUS` (R13), the working elements (R12), the result fields of the response (R50), what the host
presents next (R14, R57), and the model's own counter of free values (entry 4). `Cfg` is not state (R16). -/
structure State where
  /-- `STATUS`, written by every operation and read by none. -/
  status : Status
  /-- `ACC`, 8 bits. -/
  acc    : BitVec 8
  /-- `LEN`, 17 bits. -/
  len    : BitVec 17
  /-- `POS`, the scan cursor. -/
  pos    : Nat
  /-- `IBUF`. -/
  ibuf   : Bytes
  /-- `OBUF`. -/
  obuf   : Bytes
  /-- The result fields of the last response. -/
  result : Result
  /-- What the host presents, the next first. -/
  inputs : List HostInput
  /-- The model's own: the number of the next free value. -/
  freeTick : Nat
deriving DecidableEq, Repr

/-- The block after reset, waiting for the first request (R19, R170). `result` and `freeTick` have no value in the spec
(entries 5 and 4). -/
def State.reset : State :=
  { status := .ok, acc := 0, len := 0, pos := 0, ibuf := [], obuf := [], result := .none, inputs := [], freeTick := 0 }

end Sys2Proof.Machine
end

