-- ==== Sys2Proof/Machine/Operands.lean ====
section
/-! DEFINITION. The fixed constants (00_scope.md R6), byte order (R8, 20_memory.md R26, R27, R36), and every operand
form the operations pack or open: address pair, speed byte, function byte, turnout byte, step mode (30_encoding.md R42
to R46, R54). The formulas are total; what is outside an operation's domain is refused where the operation runs. -/

namespace Sys2Proof.Machine

/-! ## Fixed constants -/

/-- `ENV_MIN_LEN`, which is also the header length `ENV_HDR_LEN` (R6). -/
abbrev envMinLen : Nat := 4

/-- `MAX_PAYLOAD` (R61). -/
abbrev maxPayload : Nat := 65531

/-- `MAX_DATA` (R77). -/
abbrev maxData : Nat := 65529

/-- `ADDR_LONG_MIN` (R6). -/
abbrev addrLongMin : Nat := 128

/-- `ADDR_MIN` and `ADDR_MAX` (R6). -/
abbrev addrMin : Nat := 1

/-- `ADDR_MAX` (R6). -/
abbrev addrMax : Nat := 9999

/-- `ADDR_MARKER`, the two top bits of the MSB byte (R6). -/
def addrMarker : Byte := 0xC0

/-- `FN_INDEX_MAX` (R6). -/
abbrev fnIndexMax : Nat := 31

/-- `MAG_STOP`, the normal stop (R6, R94). -/
def magStop : BitVec 7 := 0

/-- `MAG_ESTOP`, the emergency stop (R6, R94). -/
def magEstop : BitVec 7 := 1

/-- `DATA_POWER_ON` (R6, R111). -/
def dataPowerOn : Byte := 0x81

/-! ## Byte sequences and byte order -/

/-- `s[i:j]`, the bytes `i` to `j-1`, empty when `j <= i` (R8). -/
def slice (s : Bytes) (i j : Nat) : Bytes := (s.take j).drop i

/-- `le16(v)`: the low byte first (R8, R26). -/
def le16 (v : U16) : Bytes := [v.extractLsb' 0 8, v.extractLsb' 8 8]

/-- `u16le(b0, b1) = b0 + 256*b1` (R8). -/
def u16le (b0 b1 : Byte) : U16 := BitVec.ofNat 16 (b0.toNat + 256 * b1.toNat)

/-- `s16le(b0, b1)`: the same 16 bits as a two's-complement number (R8). -/
def s16le (b0 b1 : Byte) : Int := (u16le b0 b1).toInt

/-- The 32-bit counter of R136, low byte first. -/
def u32le (b0 b1 b2 b3 : Byte) : BitVec 32 :=
  BitVec.ofNat 32 (b0.toNat + 256 * b1.toNat + 65536 * b2.toNat + 16777216 * b3.toNat)

/-! ## Address pair (format ADDR, R42) -/

/-- MSB then LSB, with the marker in the MSB's two top bits or without it (R42, R54). -/
def addrPair (marked : Bool) (addr : BitVec 14) : Bytes :=
  [(addr.extractLsb' 8 6).setWidth 8 ||| (if marked then addrMarker else 0), addr.extractLsb' 0 8]

/-- The locomotive address pair: the marker from 128 on (R90). -/
def locoAddrPair (addr : BitVec 14) : Bytes := addrPair (decide (addrLongMin ≤ addr.toNat)) addr

/-- The turnout address pair: the marker only when `TRN_ADDR_MARKER` is true (R92). -/
def turnoutAddrPair (c : Cfg) (taddr : BitVec 14) : Bytes :=
  addrPair (decide (addrLongMin ≤ taddr.toNat) && c.trnAddrMarker) taddr

/-- `((b0 & 0x3F) << 8) | b1`: the top two bits of the MSB are discarded unseen (R132). -/
def addrOfPair (b0 b1 : Byte) : BitVec 14 := ((b0 &&& 0x3F).setWidth 14 <<< 8) ||| b1.setWidth 14

/-! ## Speed byte (format SPD, R43) -/

/-- `(fwd << 7) | mag` (R93). -/
def speedByte (mag : BitVec 7) (fwd : BitVec 1) : Byte := (fwd.setWidth 8 <<< 7) ||| mag.setWidth 8

/-! ## Step mode (R46) -/

/-- The step mode of the operand port: 0, 1, 2; the value 3 names none (R18). -/
def stepModeOf (mode : BitVec 2) : Option StepMode :=
  if mode = 0 then some .s14 else if mode = 1 then some .s28 else if mode = 2 then some .s128 else none

/-- The wire prefix byte of a drive command (R46, R116). -/
def stepPrefix (c : Cfg) : StepMode → Byte
  | .s14 => c.prefix14
  | .s28 => c.prefix28
  | .s128 => c.prefix128

/-- The maximum magnitude (R46, R95). -/
def maxMagnitude (c : Cfg) : StepMode → Nat
  | .s14 => c.maxMag14
  | .s28 => c.maxMag28
  | .s128 => c.maxMag128

/-- The step mode of a status byte's low three bits: 0, 2, 4, else absent (R131). -/
def stepModeOfStatus (b : Byte) : Option StepMode :=
  let code := b.extractLsb' 0 3
  if code = 0 then some .s14 else if code = 2 then some .s28 else if code = 4 then some .s128 else none

/-! ## Percentage (R95) -/

/-- The operand `pct` as a signed number, clamped to -100 to 100 (R95). -/
def clampedPct (pct : BitVec 8) : Int := max (-100) (min 100 pct.toInt)

/-- `min(127, floor(|p| * M / 100))` (R95). -/
def magnitudeOfPct (maxMag : Nat) (p : Int) : BitVec 7 := BitVec.ofNat 7 (min 127 (p.natAbs * maxMag / 100))

/-- Forward when `p >= 0` (R95). -/
def directionOfPct (p : Int) : BitVec 1 := if 0 ≤ p then 1 else 0

/-! ## Function byte (format FNC, R44) and turnout byte (format TRN, R45) -/

/-- `(action << 6) | index` (R96). -/
def functionByte (action : BitVec 2) (index : Byte) : Byte := (action.setWidth 8 <<< 6) ||| index

/-- `TRN_FIXED | (queue << Q) | (activate << A) | (output << P)` (R97). -/
def turnoutByte (c : Cfg) (output : Byte) (activate queue : BitVec 1) : Byte :=
  c.trnFixed ||| (queue.setWidth 8 <<< c.trnQBit.val) ||| (activate.setWidth 8 <<< c.trnABit.val) |||
    (output <<< c.trnPBit.val)

end Sys2Proof.Machine
end

