-- ==== Sys2Proof/Machine/Flags.lean ====
section
/-! DEFINITION. `STATUS`, the only flag (10_state.md R13): its codes, and the conditions under which an operation sets an
error (60_exceptions.md R151, in the order of R153). -/

namespace Sys2Proof.Machine

/-- The code of an error (R13, R150). -/
def ErrorKind.code : ErrorKind → BitVec 3
  | .framingError => 1
  | .checksumError => 2
  | .checksumMismatch => 3
  | .rangeError => 4
  | .lengthError => 5

/-- The three bits of `STATUS` (R13). -/
def Status.code : Status → BitVec 3
  | .ok => 0
  | .error e => e.code

/-- `RangeError` when the function index is above 31 (R96). -/
def indexStatus (index : Byte) : Status := if fnIndexMax < index.toNat then .error .rangeError else .ok

/-- `RangeError` when the output selector is neither 0 nor 1 (R97). -/
def outputStatus (output : Byte) : Status := if 1 < output.toNat then .error .rangeError else .ok

/-- `ChecksumMismatch` when the running exclusive or differs from the trailing byte (R78). -/
def checksumStatus (acc trailing : Byte) : Status := if acc = trailing then .ok else .error .checksumMismatch

/-- `FramingError` when the buffer is shorter than a header, or its declared length is below 4 or beyond the buffer, in
this order (R62, R153). -/
def framingStatus (buffer : Bytes) : Status :=
  match buffer with
  | b0 :: b1 :: _ :: _ :: _ =>
    if (u16le b0 b1).toNat < envMinLen then .error .framingError
    else if buffer.length < (u16le b0 b1).toNat then .error .framingError
    else .ok
  | _ => .error .framingError

end Sys2Proof.Machine
end

