-- ==== Sys2Proof/Machine/Ops.lean ====
section
/-! DEFINITION. The named operations over the state: the start of an operation (10_state.md R12), its accesses to the
working elements (R12, R25), its end, raising an error (60_exceptions.md R155), the refusal of a request outside the
contract (R158), reset (70_reset_and_hazards.md R170), and the host's next input. -/

namespace Sys2Proof.Machine

/-! ## The working elements -/

/-- Every operation begins with the working elements at their start values and `IBUF` loaded by the request (R12). -/
def State.start (input : Bytes) (s : State) : State :=
  { s with acc := 0, len := 0, pos := 0, ibuf := input, obuf := [], result := .none }

/-- `ACC <- ACC ^ b` (R75). -/
def State.foldByte (b : Byte) (s : State) : State := { s with acc := s.acc ^^^ b }

/-- `ACC` takes in a byte sequence in order (R75). -/
def State.foldBytes (bs : Bytes) (s : State) : State := bs.foldl (fun t b => t.foldByte b) s

/-- `LEN` takes a byte count, 17 bits wide (R12). -/
def State.setLen (n : Nat) (s : State) : State := { s with len := BitVec.ofNat 17 n }

/-- `POS <- POS + n` (R64). -/
def State.advance (n : Nat) (s : State) : State := { s with pos := s.pos + n }

/-- `MemWrite` at the end of `OBUF`, first byte first (R25). -/
def State.memWrite (bs : Bytes) (s : State) : State := { s with obuf := s.obuf ++ bs }

/-- `OBUF` takes the envelope of `IBUF`: `LEN` low byte, high byte, kind, payload (R60). -/
def State.frameEnvelope (kind : U16) (s : State) : State :=
  let t := s.setLen (s.ibuf.length + envMinLen)
  t.memWrite ([t.len.extractLsb' 0 8, t.len.extractLsb' 8 8] ++ le16 kind ++ t.ibuf)

/-- `OBUF` takes the sub-frame of `IBUF`: command id, data, and the exclusive or of both from `ACC` (R76). -/
def State.frameCommand (cid : Byte) (s : State) : State :=
  let t := (s.setLen (s.ibuf.length + 2)).foldBytes (cid :: s.ibuf)
  t.memWrite (cid :: t.ibuf ++ [t.acc])

/-! ## The end of an operation -/

/-- Between operations `ACC`, `LEN`, `POS` and `IBUF` hold any value (93 section 1 #31): free values (entry 4). -/
def State.release (s : State) : State :=
  { s with
    acc := Config.freeAcc s.freeTick, len := Config.freeLen s.freeTick, pos := Config.freePos s.freeTick,
    ibuf := Config.freeInput s.freeTick, freeTick := s.freeTick + 1 }

/-- The operation ends with a status and a result (R14, R50). -/
def State.respond (st : Status) (r : Result) (s : State) : State := { s with status := st, result := r }.release

/-- The operation ends with `STATUS = OK` and a result (R8 `return OK`). -/
def State.finish (r : Result) (s : State) : State := s.respond .ok r

/-- The operation ends with `STATUS = OK` and the bytes in `OBUF` (R8 `return OK(bytes)`). -/
def State.output (bs : Bytes) (s : State) : State := (s.memWrite bs).finish .output

/-- Raising an error, the one way every operation takes it: `STATUS` is the error's code, `OBUF` is empty, no result
field holds a value, nothing else is kept; there is no saved state and no vector (R155). Nothing returns from it: the
next operation runs as if it had not happened (R156). -/
def State.raise (e : ErrorKind) (s : State) : State := { s with obuf := [] }.respond (.error e) .none

/-- One byte out, or the error the check gives (R96, R97). -/
def State.outputIf (st : Status) (bs : Bytes) (s : State) : State :=
  match st with
  | .ok => s.output bs
  | .error e => s.raise e

/-- A builder's end: the command, its data being what the builder writes to `OBUF` (R17, R110; entry 5), or the error
the check gives. -/
def State.commandIf (st : Status) (c : Command) (s : State) : State :=
  match st with
  | .ok => (s.memWrite c.data).finish (.command c)
  | .error e => s.raise e

/-- A record decoder's end: the record, or `LengthError` when the length was outside the allowed (R137). -/
def State.record (r : Option Result) (s : State) : State :=
  match r with
  | some r => s.finish r
  | none => s.raise .lengthError

/-! ## Refusal -/

/-- A locomotive address outside 1 to 9999 is refused (R91, R158). -/
def locoAddrCheck (addr : BitVec 14) : Option Refusal :=
  if addrMin ≤ addr.toNat ∧ addr.toNat ≤ addrMax then none else some (.locoAddressOutsideDomain addr)

/-- The action 3 is refused (R96, R158). -/
def actionCheck (action : BitVec 2) : Option Refusal := if action = 3 then some .illegalAction else none

/-- A payload longer than `MAX_PAYLOAD` is refused (R61, R158). -/
def payloadCheck (payload : Bytes) : Option Refusal :=
  if maxPayload < payload.length then some (.payloadTooLong payload.length) else none

/-- Data longer than `MAX_DATA` are refused by CMD.WRAP (R120, R158). -/
def dataCheck (data : Bytes) : Option Refusal :=
  if maxData < data.length then some (.dataTooLong data.length) else none

/-- Refusal is a property of the whole request and comes before every error check (R158): the operation runs to `t` only
when no check refuses. With several, the first names the refusal (entry 8). -/
def guarded (checks : List (Option Refusal)) (t : State) : Host.Outcome State Fault Refusal :=
  match checks.findSome? id with
  | some r => .refused r
  | none => .next t

/-- The operand `mode` names a step mode, or the request is refused (R95, R116, R158). -/
def withMode (mode : BitVec 2) (run : StepMode → Host.Outcome State Fault Refusal) :
    Host.Outcome State Fault Refusal :=
  match stepModeOf mode with
  | some m => run m
  | none => .refused .illegalMode

/-! ## Reset and the host's next input -/

/-- Reset puts every element of R12 and `STATUS` at the values of R19 (R170); the result is gone with them, and what the
host presents next stays. -/
def State.applyReset (s : State) : State :=
  { s with status := .ok, acc := 0, len := 0, pos := 0, ibuf := [], obuf := [], result := .none }

/-- The host's next input, taken off the list (R14). -/
def State.nextInput (s : State) : Option (HostInput × State) :=
  match s.inputs with
  | [] => none
  | i :: rest => some (i, { s with inputs := rest })

/-- The state with a request presented next, before everything else the host will present. -/
def State.present (r : Request) (s : State) : State := { s with inputs := .request r :: s.inputs }

end Sys2Proof.Machine
end

