-- ==== Sys2Proof/Machine/Envelope.lean ====
section
/-! DEFINITION. The envelope framer: ENV.ENC, ENV.DEC, ENV.SCAN (40_envelope.md). -/

namespace Sys2Proof.Machine

/-- The envelope at the front of a buffer and the bytes it occupies, or none where ENV.DEC raises `FramingError` (R62);
bytes beyond the declared length are left alone (R63). -/
def envDecode (buffer : Bytes) : Option (Envelope × Nat) :=
  match framingStatus buffer, buffer with
  | .ok, b0 :: b1 :: k0 :: k1 :: _ =>
    some (⟨u16le k0 k1, slice buffer envMinLen (u16le b0 b1).toNat⟩, (u16le b0 b1).toNat)
  | _, _ => none

/-- The loop of ENV.SCAN on `IBUF` from `POS`: the envelopes decoded and the final status (R64), ending at the first
decode that fails (R65). Each pass moves `POS` by at least 4, so `IBUF`'s length is fuel enough, and with no fuel left
the buffer is exhausted. -/
def scanLoop : Nat → List Envelope → State → List Envelope × Status × State
  | 0, out, s => (out, .ok, s)
  | fuel + 1, out, s =>
    if s.pos < s.ibuf.length then
      match envDecode (s.ibuf.drop s.pos) with
      | some (e, consumed) => scanLoop fuel (out ++ [e]) (s.advance consumed)
      | none => (out, .error .framingError, s)
    else (out, .ok, s)

/-- ENV.ENC (R60, R61). -/
def execEnvEnc (kind : U16) (payload : Bytes) (s : State) : Host.Outcome State Fault Refusal :=
  guarded [payloadCheck payload] (((s.start payload).frameEnvelope kind).finish .output)

/-- ENV.DEC (R62, R63). -/
def execEnvDec (buffer : Bytes) (s : State) : Host.Outcome State Fault Refusal :=
  let t := s.start buffer
  match envDecode t.ibuf with
  | some (e, consumed) => .next ((t.setLen consumed).finish (.envelope e consumed))
  | none => .next (t.raise .framingError)

/-- ENV.SCAN (R64, R65): the envelopes decoded stand beside the final status, `FramingError` too (R50). -/
def execEnvScan (buffer : Bytes) (s : State) : Host.Outcome State Fault Refusal :=
  match scanLoop buffer.length [] (s.start buffer) with
  | (out, st, t) => .next (t.respond st (.envelopes out))

end Sys2Proof.Machine
end

