-- ==== Sys2Proof/Machine/Adjacent.lean ====
section
/-! DEFINITION. The optional extension: the effective kind and the adjacent decoders (44_adjacent_decoders.md). A record
decoder answers none where R137 raises `LengthError`. -/

namespace Sys2Proof.Machine

/-- The effective kind of a decoded envelope: its kind, or the first payload byte of a wrapper envelope; none for a
wrapper envelope with no payload (R130). -/
def effectiveKind (c : Cfg) (e : Envelope) : Option U16 :=
  if e.kind = c.kindCmdWrapper then
    match e.payload with
    | b :: _ => some (b.setWidth 16)
    | [] => none
  else some e.kind

/-- The bits 0 to `n - 1` of a byte that may be absent, each absent where the byte is (R133, C8). -/
def functionBits (b : Option Byte) (n : Nat) : List (Option Bool) :=
  (List.range n).map fun k => b.map fun v => v.getLsbD k

/-- The function table F0 to F31, absent as a whole without byte 4: F0 at bit 4 of byte 4, F1 to F4 at its bits 0 to 3,
then F5 to F12, F13 to F20, F21 to F28 and F29 to F31 of bytes 5 to 8 from bit 0 up (R133). -/
def functionTable (bytes : Bytes) : Option (List (Option Bool)) :=
  bytes[4]?.map fun b4 =>
    some (b4.getLsbD 4) :: functionBits (some b4) 4 ++ functionBits bytes[5]? 8 ++ functionBits bytes[6]? 8 ++
      functionBits bytes[7]? 8 ++ functionBits bytes[8]? 3

/-- The locomotive status record of 2 bytes or more; bytes from the tenth on are not looked at (R133). -/
def locoStatusOf (c : Cfg) (bytes : Bytes) : Option LocoStatus :=
  match bytes with
  | b0 :: b1 :: _ =>
    let stepMode := bytes[2]?.bind stepModeOfStatus
    some
      { address := addrOfPair b0 b1
        busy := bytes[2]?.map fun b => b.getLsbD 3
        stepMode := stepMode
        forward := bytes[3]?.map fun b => b.getLsbD 7
        magnitude := bytes[3]?.map fun b => b.extractLsb' 0 7
        speedPct := bytes[3]?.bind fun b => stepMode.map fun m => c.pctdec m (b.getLsbD 7) (b.extractLsb' 0 7)
        doubleTraction := bytes[4]?.map fun b => b.getLsbD 6
        smartSearch := bytes[4]?.map fun b => b.getLsbD 5
        functions := functionTable bytes }
  | _ => none

/-- The turnout position of a status byte's low two bits (R134). -/
def positionOf (b : Byte) : Position :=
  let code := b.extractLsb' 0 2
  if code = 0 then .unknown else if code = 1 then .p0 else if code = 2 then .p1 else .invalid

/-- The turnout status record of 3 bytes, no bit of the MSB discarded (R134). -/
def turnoutStatusOf : Bytes → Option TurnoutStatus
  | [b0, b1, b2] => some ⟨(b0.setWidth 16 <<< 8) ||| b1.setWidth 16, positionOf b2⟩
  | _ => none

/-- The system telemetry record of 16 bytes (R135). -/
def telemetryOf : Bytes → Option Telemetry
  | [b0, b1, b2, b3, b4, b5, b6, b7, b8, b9, b10, b11, b12, b13, b14, b15] =>
    some
      { current1 := s16le b0 b1, current2 := s16le b2 b3, currentFiltered := s16le b4 b5, temperature := s16le b6 b7
        voltage1 := u16le b8 b9, voltage2 := u16le b10 b11
        state := b12, stateEx := b13, reserved := b14, capabilities := b15
        trackOff := b12.getLsbD 1, shortCircuit := b12.getLsbD 2, programmingMode := b12.getLsbD 5 }
  | _ => none

/-- The rich feedback record of 13 bytes (R136). -/
def feedbackOf : Bytes → Option Feedback
  | [b0, b1, b2, b3, b4, b5, b6, b7, b8, b9, b10, b11, b12] =>
    some
      { address := u16le b0 b1, receiveCounter := u32le b2 b3 b4 b5, errorCounter := u16le b6 b7
        reserved1 := b8, options := b9, speed := b10, qos := b11, reserved2 := b12 }
  | _ => none

/-- Options bit 0: speed-variant-1 valid (R136). -/
def Feedback.speedVariant1Valid (r : Feedback) : Bool := r.options.getLsbD 0

/-- Options bit 1: speed-variant-2 valid (R136). -/
def Feedback.speedVariant2Valid (r : Feedback) : Bool := r.options.getLsbD 1

/-- Options bit 2: quality-of-service valid (R136). -/
def Feedback.qosValid (r : Feedback) : Bool := r.options.getLsbD 2

/-- EKIND (R130). -/
def execEkind (buffer : Bytes) (s : State) : Host.Outcome State Fault Refusal :=
  let t := s.start buffer
  match (envDecode t.ibuf).bind fun d => effectiveKind Config.cfg d.1 with
  | some k => .next (t.finish (.effectiveKind k))
  | none => .next (t.raise .framingError)

/-- STEP.DEC of one status byte (R131); with any other operand it still raises nothing, and its result is a free value
(entry 6). -/
def execStepDec (bytes : Bytes) (s : State) : Host.Outcome State Fault Refusal :=
  match bytes with
  | [b] => .next ((s.start bytes).finish (.stepMode (stepModeOfStatus b)))
  | _ => .next ((s.start bytes).finish (.stepMode (Config.freeStepMode bytes)))

/-- ADDR.DEC of two bytes (R132). -/
def execAddrDec (bytes : Bytes) (s : State) : Host.Outcome State Fault Refusal :=
  match bytes with
  | [b0, b1] => .next ((s.start bytes).record (some (.address (addrOfPair b0 b1))))
  | _ => .next ((s.start bytes).record none)

/-- LOCO.STAT (R133). -/
def execLocoStat (bytes : Bytes) (s : State) : Host.Outcome State Fault Refusal :=
  .next ((s.start bytes).record ((locoStatusOf Config.cfg bytes).map .locoStatus))

/-- TRN.STAT (R134). -/
def execTrnStat (bytes : Bytes) (s : State) : Host.Outcome State Fault Refusal :=
  .next ((s.start bytes).record ((turnoutStatusOf bytes).map .turnoutStatus))

/-- SYS.TELEM (R135). -/
def execSysTelem (bytes : Bytes) (s : State) : Host.Outcome State Fault Refusal :=
  .next ((s.start bytes).record ((telemetryOf bytes).map .telemetry))

/-- RFB.DEC (R136). -/
def execRfbDec (bytes : Bytes) (s : State) : Host.Outcome State Fault Refusal :=
  .next ((s.start bytes).record ((feedbackOf bytes).map .feedback))

end Sys2Proof.Machine
end

