-- ==== Sys2Proof/Machine/Builder.lean ====
section
/-! DEFINITION. The nine command builders and the wrap (43_command_builders.md), their data laid out as 30_encoding.md
R47 says. -/

namespace Sys2Proof.Machine

/-- PWR.ON (R111). -/
def execPwrOn (s : State) : Host.Outcome State Fault Refusal :=
  .next ((s.start []).commandIf .ok ⟨Config.cfg.cidPower, [dataPowerOn]⟩)

/-- PWR.OFF (R112). -/
def execPwrOff (s : State) : Host.Outcome State Fault Refusal :=
  .next ((s.start []).commandIf .ok ⟨Config.cfg.cidPower, [Config.cfg.dataPowerOff]⟩)

/-- VER.REQ (R113). -/
def execVerReq (s : State) : Host.Outcome State Fault Refusal :=
  .next ((s.start []).commandIf .ok ⟨Config.cfg.cidVersion, [Config.cfg.dataVersion]⟩)

/-- FWVER.REQ (R114). -/
def execFwverReq (s : State) : Host.Outcome State Fault Refusal :=
  .next ((s.start []).commandIf .ok ⟨Config.cfg.cidFwversion, [Config.cfg.dataFwversion]⟩)

/-- LOCO.INFO (R115). -/
def execLocoInfo (addr : BitVec 14) (s : State) : Host.Outcome State Fault Refusal :=
  guarded [locoAddrCheck addr]
    ((s.start []).commandIf .ok ⟨Config.cfg.cidLocoInfo, Config.cfg.subidLocoInfo :: locoAddrPair addr⟩)

/-- LOCO.DRIVE (R116). -/
def execLocoDrive (mode : BitVec 2) (addr : BitVec 14) (mag : BitVec 7) (fwd : BitVec 1) (s : State) :
    Host.Outcome State Fault Refusal :=
  withMode mode fun m =>
    guarded [locoAddrCheck addr]
      ((s.start []).commandIf .ok
        ⟨Config.cfg.cidLocoDrive, stepPrefix Config.cfg m :: locoAddrPair addr ++ [speedByte mag fwd]⟩)

/-- LOCO.FUNC (R117); a refused operand is refused even beside an index out of range (R153, C9). -/
def execLocoFunc (addr : BitVec 14) (action : BitVec 2) (index : Byte) (s : State) :
    Host.Outcome State Fault Refusal :=
  guarded [actionCheck action, locoAddrCheck addr]
    ((s.start []).commandIf (indexStatus index)
      ⟨Config.cfg.cidLocoFunc, Config.cfg.subidLocoFunc :: locoAddrPair addr ++ [functionByte action index]⟩)

/-- TRN.INFO (R118). -/
def execTrnInfo (taddr : BitVec 14) (s : State) : Host.Outcome State Fault Refusal :=
  .next ((s.start []).commandIf .ok ⟨Config.cfg.cidTrnInfo, turnoutAddrPair Config.cfg taddr⟩)

/-- TRN.SET (R119). -/
def execTrnSet (taddr : BitVec 14) (output : Byte) (activate queue : BitVec 1) (s : State) :
    Host.Outcome State Fault Refusal :=
  .next ((s.start []).commandIf (outputStatus output)
    ⟨Config.cfg.cidTrnSet, turnoutAddrPair Config.cfg taddr ++ [turnoutByte Config.cfg output activate queue]⟩)

/-- CMD.WRAP: SUB.ENC, then ENV.ENC of what it wrote, under the wrapper kind (R120). -/
def execCmdWrap (cid : Byte) (data : Bytes) (s : State) : Host.Outcome State Fault Refusal :=
  let inner := (s.start data).frameCommand cid
  guarded [dataCheck data] (((inner.start inner.obuf).frameEnvelope Config.cfg.kindCmdWrapper).finish .output)

end Sys2Proof.Machine
end

