-- ==== Sys2Proof/Machine/Field.lean ====
section
/-! DEFINITION. The bit-packed field encoders: ADDR.ENC, TADDR.ENC, SPD.PACK, PCT2MAG, FN.PACK, TRN.PACK
(42_field_encoders.md). -/

namespace Sys2Proof.Machine

/-- ADDR.ENC (R90, R91). -/
def execAddrEnc (addr : BitVec 14) (s : State) : Host.Outcome State Fault Refusal :=
  guarded [locoAddrCheck addr] ((s.start []).output (locoAddrPair addr))

/-- TADDR.ENC (R92). -/
def execTaddrEnc (taddr : BitVec 14) (s : State) : Host.Outcome State Fault Refusal :=
  .next ((s.start []).output (turnoutAddrPair Config.cfg taddr))

/-- SPD.PACK; magnitudes 0 and 1 are packed like any other (R93, R94). -/
def execSpdPack (mag : BitVec 7) (fwd : BitVec 1) (s : State) : Host.Outcome State Fault Refusal :=
  .next ((s.start []).output [speedByte mag fwd])

/-- PCT2MAG (R95). -/
def execPct2mag (mode : BitVec 2) (pct : BitVec 8) (s : State) : Host.Outcome State Fault Refusal :=
  withMode mode fun m =>
    .next ((s.start []).finish
      (.magnitude (magnitudeOfPct (maxMagnitude Config.cfg m) (clampedPct pct)) (directionOfPct (clampedPct pct))))

/-- FN.PACK (R96). -/
def execFnPack (action : BitVec 2) (index : Byte) (s : State) : Host.Outcome State Fault Refusal :=
  guarded [actionCheck action] ((s.start []).outputIf (indexStatus index) [functionByte action index])

/-- TRN.PACK (R97). -/
def execTrnPack (output : Byte) (activate queue : BitVec 1) (s : State) : Host.Outcome State Fault Refusal :=
  .next ((s.start []).outputIf (outputStatus output) [turnoutByte Config.cfg output activate queue])

end Sys2Proof.Machine
end

