-- ==== Sys2Proof/Machine/SubFrame.lean ====
section
/-! DEFINITION. The XOR checksum generator and the sub-frame framer: XORFOLD, SUB.ENC, SUB.DEC
(41_subframe_checksum.md). -/

namespace Sys2Proof.Machine

/-- XORFOLD: the result is the final `ACC` (R75). -/
def execXorfold (bytes : Bytes) (s : State) : Host.Outcome State Fault Refusal :=
  let t := (s.start bytes).foldBytes bytes
  .next (t.finish (.byte t.acc))

/-- SUB.ENC, for data of every length (R76, R77). -/
def execSubEnc (cid : Byte) (data : Bytes) (s : State) : Host.Outcome State Fault Refusal :=
  .next (((s.start data).frameCommand cid).finish .output)

/-- SUB.DEC: the length check first, then the checksum over all bytes but the last (R78). -/
def execSubDec (bytes : Bytes) (s : State) : Host.Outcome State Fault Refusal :=
  match bytes with
  | cid :: b :: rest =>
    let t := (s.start bytes).foldBytes (cid :: (b :: rest).dropLast)
    match checksumStatus t.acc ((b :: rest).getLast (List.cons_ne_nil b rest)) with
    | .ok => .next (t.finish (.command ⟨cid, (b :: rest).dropLast⟩))
    | .error e => .next (t.raise e)
  | _ => .next ((s.start bytes).raise .checksumError)

end Sys2Proof.Machine
end

