-- ==== Sys2Proof/Machine/Dispatch.lean ====
section
/-! DEFINITION. One arm for each operation of 30_encoding.md R48. -/

namespace Sys2Proof.Machine

def exec (i : Instr) (s : State) : Host.Outcome State Fault Refusal :=
  match i with
  | .envEnc kind payload => Sys2Proof.Machine.execEnvEnc kind payload s
  | .envDec buffer => Sys2Proof.Machine.execEnvDec buffer s
  | .envScan buffer => Sys2Proof.Machine.execEnvScan buffer s
  | .xorfold bytes => Sys2Proof.Machine.execXorfold bytes s
  | .subEnc cid data => Sys2Proof.Machine.execSubEnc cid data s
  | .subDec bytes => Sys2Proof.Machine.execSubDec bytes s
  | .addrEnc addr => Sys2Proof.Machine.execAddrEnc addr s
  | .taddrEnc taddr => Sys2Proof.Machine.execTaddrEnc taddr s
  | .spdPack mag fwd => Sys2Proof.Machine.execSpdPack mag fwd s
  | .pct2mag mode pct => Sys2Proof.Machine.execPct2mag mode pct s
  | .fnPack action index => Sys2Proof.Machine.execFnPack action index s
  | .trnPack output activate queue => Sys2Proof.Machine.execTrnPack output activate queue s
  | .pwrOn => Sys2Proof.Machine.execPwrOn s
  | .pwrOff => Sys2Proof.Machine.execPwrOff s
  | .verReq => Sys2Proof.Machine.execVerReq s
  | .fwverReq => Sys2Proof.Machine.execFwverReq s
  | .locoInfo addr => Sys2Proof.Machine.execLocoInfo addr s
  | .locoDrive mode addr mag fwd => Sys2Proof.Machine.execLocoDrive mode addr mag fwd s
  | .locoFunc addr action index => Sys2Proof.Machine.execLocoFunc addr action index s
  | .trnInfo taddr => Sys2Proof.Machine.execTrnInfo taddr s
  | .trnSet taddr output activate queue => Sys2Proof.Machine.execTrnSet taddr output activate queue s
  | .cmdWrap cid data => Sys2Proof.Machine.execCmdWrap cid data s
  | .ekind buffer => Sys2Proof.Machine.execEkind buffer s
  | .stepDec bytes => Sys2Proof.Machine.execStepDec bytes s
  | .addrDec bytes => Sys2Proof.Machine.execAddrDec bytes s
  | .locoStat bytes => Sys2Proof.Machine.execLocoStat bytes s
  | .trnStat bytes => Sys2Proof.Machine.execTrnStat bytes s
  | .sysTelem bytes => Sys2Proof.Machine.execSysTelem bytes s
  | .rfbDec bytes => Sys2Proof.Machine.execRfbDec bytes s

end Sys2Proof.Machine
end

