-- ==== Sys2Proof/Machine/Step.lean ====
section
/-! DEFINITION. One step: the block answers the request the host presents (10_state.md R14), is reset
(70_reset_and_hazards.md R170, R171), or waits for the first request (R170). -/

namespace Sys2Proof.Machine

/-- A request runs the operation it selects; a selector outside the map is refused (30_encoding.md R51). -/
def runRequest (r : Request) (s : State) : Host.Outcome State Fault Refusal :=
  match decode r with
  | .ok i => exec i s
  | .error (.unknownSelector opsel) => .refused (.unknownSelector opsel)

/-- One step. A reset that arrives while an operation is running abandons it: no response, no output (R171). The spec does
not say what a reset does to a request outside the contract, which selects no operation or has no meaning (R158); the
model resets there too and does not refuse: DESIGN CHOICE (entry 10). -/
def step (s : State) : Host.Outcome State Fault Refusal :=
  match s.nextInput with
  | none => .next s
  | some (.request r, t) => runRequest r t
  | some (.reset, t) => .next t.applyReset
  | some (.resetDuring _, t) => .next t.applyReset

/-- The request of a table row (`tableRequest`: its selector, every port zero) presented next. Every row has the 8 bits
of `OPSEL`, and its operands are ports with no bits in the table. -/
def State.withFetchWord (s : State) (_nbits w : Nat) : State := s.present (tableRequest w)

end Sys2Proof.Machine
end

