-- ==== Sys2Proof/Machine/Pseudo.lean ====
section
/-! DEFINITION. The pseudo-operations: shorthands the host runs as sequences of operations, with no selector of their own
(30_encoding.md R58). -/

namespace Sys2Proof.Machine

/-- A builder with its operands, the first operand of SEND. -/
inductive BuilderCall where
  | pwrOn
  | pwrOff
  | verReq
  | fwverReq
  | locoInfo  (addr : BitVec 14)
  | locoDrive (mode : BitVec 2) (addr : BitVec 14) (mag : BitVec 7) (fwd : BitVec 1)
  | locoFunc  (addr : BitVec 14) (action : BitVec 2) (index : Byte)
  | trnInfo   (taddr : BitVec 14)
  | trnSet    (taddr : BitVec 14) (output : Byte) (activate queue : BitVec 1)
deriving DecidableEq, Repr

/-- The operation that runs a builder. -/
def BuilderCall.instr : BuilderCall → Instr
  | .pwrOn => .pwrOn
  | .pwrOff => .pwrOff
  | .verReq => .verReq
  | .fwverReq => .fwverReq
  | .locoInfo addr => .locoInfo addr
  | .locoDrive mode addr mag fwd => .locoDrive mode addr mag fwd
  | .locoFunc addr action index => .locoFunc addr action index
  | .trnInfo taddr => .trnInfo taddr
  | .trnSet taddr output activate queue => .trnSet taddr output activate queue

/-- The next operation of a sequence runs on the result of the one before; an error, a refusal or a fault ends it. -/
def andThen (first : Host.Outcome State Fault Refusal)
    (next : Result → State → Host.Outcome State Fault Refusal) : Host.Outcome State Fault Refusal :=
  match first with
  | .next t =>
    match t.status with
    | .ok => next t.result t
    | .error _ => .next t
  | .fault f => .fault f
  | .refused r => .refused r

/-- SEND: the builder; if it raises, that error is the result; else CMD.WRAP of the command (R58, R153). -/
def sendCommand (b : BuilderCall) (s : State) : Host.Outcome State Fault Refusal :=
  andThen (exec b.instr s) fun r t =>
    match r with
    | .command c => exec (.cmdWrap c.commandId c.data) t
    | _ => .next t

/-- LOCO.DRIVE.PCT: PCT2MAG, then LOCO.DRIVE with its magnitude and direction (R58). -/
def locoDrivePct (mode : BitVec 2) (addr : BitVec 14) (pct : BitVec 8) (s : State) :
    Host.Outcome State Fault Refusal :=
  andThen (exec (.pct2mag mode pct) s) fun r t =>
    match r with
    | .magnitude mag fwd => exec (.locoDrive mode addr mag fwd) t
    | _ => .next t

/-- LOCO.STOP: LOCO.DRIVE with the normal stop (R58, R94). -/
def locoStop (mode : BitVec 2) (addr : BitVec 14) (fwd : BitVec 1) (s : State) : Host.Outcome State Fault Refusal :=
  exec (.locoDrive mode addr magStop fwd) s

/-- LOCO.ESTOP: LOCO.DRIVE with the emergency stop (R58, R94). -/
def locoEstop (mode : BitVec 2) (addr : BitVec 14) (fwd : BitVec 1) (s : State) : Host.Outcome State Fault Refusal :=
  exec (.locoDrive mode addr magEstop fwd) s

/-- SUB.CHECK: XORFOLD, and whether the bytes are a valid sub-frame: two or more whose fold is 0x00 (R58, R79). -/
def subCheck (bytes : Bytes) (s : State) : Host.Outcome State Fault Refusal × Bool :=
  match exec (.xorfold bytes) s with
  | .next t => (.next t, decide (2 ≤ bytes.length) && decide (t.result = .byte 0))
  | o => (o, false)

end Sys2Proof.Machine
end

