-- ==== Sys2Proof/Safety.lean ====
section
/-! DEFINITION. The words claims are made in: the exclusive-or fold (41_subframe_checksum.md R75), the two frames as
byte sequences (30_encoding.md R40, R41), a response (R50), the interface contract on requests (60_exceptions.md R158),
and the shape every response has. -/

namespace Sys2Proof.Machine

/-- The exclusive or of all bytes, 0x00 for none (R75). -/
def xorFold (bs : Bytes) : Byte := bs.foldl (fun a b => a ^^^ b) 0

/-- The envelope of a payload (R40): total length and kind, both low byte first, then the payload. -/
def envelopeBytes (kind : U16) (payload : Bytes) : Bytes :=
  le16 (BitVec.ofNat 16 (payload.length + 4)) ++ le16 kind ++ payload

/-- The sub-frame of a command (R41): command id, data, exclusive or of both. -/
def subFrameBytes (cid : Byte) (data : Bytes) : Bytes := cid :: data ++ [xorFold (cid :: data)]

/-- A response: `STATUS`, `OBUF` and the result fields (R50). -/
structure Response where
  status : Status
  obuf   : Bytes
  result : Result
deriving DecidableEq, Repr

/-- What the host reads of the state. -/
def State.response (s : State) : Response := ⟨s.status, s.obuf, s.result⟩

/-- The response to an operation that raised (R155). -/
def Response.raised (e : ErrorKind) : Response := ⟨.error e, [], .none⟩

/-- The selectors of R48. -/
def selectors : List Byte := [
  0x01, 0x02, 0x03, 0x10, 0x11, 0x12, 0x20, 0x21, 0x22, 0x23, 0x24, 0x25, 0x30, 0x31, 0x32, 0x33, 0x34, 0x35, 0x36,
  0x37, 0x38, 0x3F, 0x40, 0x41, 0x42, 0x43, 0x44, 0x45, 0x46]

/-- The shape of every response: an error has no output and no result (R155), but that ENV.SCAN's envelopes stand beside
`FramingError` (R50, R65); an envelope decoded occupies its payload and 4 bytes, at most 65535 (R40, R62); a function
table has its 32 entries, and a speed percentage only beside a step mode and a direction (R133); bytes are out exactly
where the result says so. -/
def Response.Shaped (r : Response) : Prop :=
  match r.status, r.result with
  | .ok, .output => r.obuf ≠ []
  | .ok, .command c => r.obuf = c.data ∨ r.obuf = []
  | .ok, .envelope e consumed => r.obuf = [] ∧ consumed = e.payload.length + 4 ∧ consumed ≤ 65535
  | .ok, .envelopes es => r.obuf = [] ∧ ∀ e ∈ es, e.payload.length ≤ 65531
  | .ok, .locoStatus l =>
      r.obuf = [] ∧ (∀ t, l.functions = some t → t.length = 32) ∧
        (l.speedPct.isSome → l.stepMode.isSome ∧ l.forward.isSome)
  | .ok, _ => r.obuf = []
  | .error .framingError, .envelopes es => r.obuf = [] ∧ ∀ e ∈ es, e.payload.length ≤ 65531
  | .error _, .none => r.obuf = []
  | .error _, _ => False

/-- The invariant of the machine: its last response has the shape of a response. -/
def State.Shaped (s : State) : Prop := s.response.Shaped

end Sys2Proof.Machine

namespace Sys2Proof

/-- The requests R158 refuses, in its order; a port the operation does not use is ignored (R18). -/
def Request.outsideContract (r : Request) : Prop :=
  r.opsel ∉ Machine.selectors ∨
  (r.opsel ∈ [0x23, 0x35] ∧ r.mode = 3) ∨
  (r.opsel ∈ [0x24, 0x36] ∧ r.action = 3) ∨
  (r.opsel ∈ [0x20, 0x34, 0x35, 0x36] ∧ (r.addr = 0 ∨ 9999 < r.addr.toNat)) ∨
  (r.opsel = 0x01 ∧ 65531 < r.ibuf.length) ∨
  (r.opsel = 0x3F ∧ 65529 < r.ibuf.length)

end Sys2Proof
end

