-- ==== Sys2Proof/WellFormed.lean ====
section
/-! DEFINITION. The interface contract on an operation's operands: what 30_encoding.md R51 and 60_exceptions.md R158
leave outside it, and the one-byte operand of STEP.DEC (44_adjacent_decoders.md R131). The other legal ranges of
10_state.md R18 (`index`, `output`) are not part of it: outside them an operation raises `RangeError`. -/

namespace Sys2Proof

/-- A locomotive address of the documented domain 1 to 9999 (42_field_encoders.md R91). -/
def legalLocoAddr (addr : BitVec 14) : Bool := decide (1 ≤ addr.toNat ∧ addr.toNat ≤ 9999)

/-- One of the three step modes 0, 1, 2 (10_state.md R18). -/
def legalMode (mode : BitVec 2) : Bool := mode != 3

/-- One of the three actions OFF, ON, TOGGLE (10_state.md R18). -/
def legalAction (action : BitVec 2) : Bool := action != 3

/-- The operation's operands are inside the interface contract. -/
def Instr.wellFormed : Instr → Bool
  | .envEnc _ payload => decide (payload.length ≤ 65531)
  | .envDec _ => true
  | .envScan _ => true
  | .xorfold _ => true
  | .subEnc _ _ => true
  | .subDec _ => true
  | .addrEnc addr => legalLocoAddr addr
  | .taddrEnc _ => true
  | .spdPack _ _ => true
  | .pct2mag mode _ => legalMode mode
  | .fnPack action _ => legalAction action
  | .trnPack _ _ _ => true
  | .pwrOn => true
  | .pwrOff => true
  | .verReq => true
  | .fwverReq => true
  | .locoInfo addr => legalLocoAddr addr
  | .locoDrive mode addr _ _ => legalMode mode && legalLocoAddr addr
  | .locoFunc addr action _ => legalAction action && legalLocoAddr addr
  | .trnInfo _ => true
  | .trnSet _ _ _ _ => true
  | .cmdWrap _ data => decide (data.length ≤ 65529)
  | .ekind _ => true
  | .stepDec bytes => decide (bytes.length = 1)
  | .addrDec _ => true
  | .locoStat _ => true
  | .trnStat _ => true
  | .sysTelem _ => true
  | .rfbDec _ => true

end Sys2Proof
end

