-- ==== Sys2Proof/Certificates/Slice0/Obligations.lean ====
section
/-! DEFINITION. The statements for the provers, from the numbered rules of spec/. A completion statement concludes that
`exec` answers a next state, what the response is, and that what the host presents next is left alone; the working
elements hold free values afterwards (entry 4) and no statement says what they are. -/

open Sys2Proof Sys2Proof.Machine

/-! ## Requests, selectors, reset -/

/-- R19, R170: the reset values; the reset input puts every element there and leaves what the host presents (the model's
reading: entry 10); the block then waits (a step that changes nothing is the model's form of waiting: entry 2); and an
operation answers after a reset as it would have without it. -/
def Obligations.ResetPutsEveryElementAtItsStartValue : Prop :=
  (State.reset.status = .ok ∧ State.reset.acc = 0x00 ∧ State.reset.len = 0 ∧ State.reset.pos = 0 ∧
    State.reset.ibuf = [] ∧ State.reset.obuf = []) ∧
  step State.reset = .next State.reset ∧
  (∀ (s : State) (rest : List HostInput), s.inputs = .reset :: rest →
    ∃ t, step s = .next t ∧ t.status = .ok ∧ t.acc = 0x00 ∧ t.len = 0 ∧ t.pos = 0 ∧ t.ibuf = [] ∧ t.obuf = [] ∧
      t.inputs = rest ∧
      ∀ (i : Instr) (u : State), exec i s = .next u → ∃ v, exec i t = .next v ∧ v.response = u.response)

/-- R171: a reset while an operation is running: the request is gone, nothing of it is out, neither bytes nor a result,
and the elements are at their reset values. That it is so for a request outside the contract too, and that the result and
the elements are those of reset, is the model's choice (entry 10). -/
def Obligations.ResetDuringAnOperationAbandonsIt : Prop :=
  ∀ (s : State) (r : Request) (rest : List HostInput), s.inputs = .resetDuring r :: rest →
    ∃ t, step s = .next t ∧ t.status = .ok ∧ t.obuf = [] ∧ t.result = .none ∧ t.acc = 0x00 ∧ t.len = 0 ∧ t.pos = 0 ∧ t.ibuf = [] ∧
      t.inputs = rest

/-- R170: "After reset the block waits for the first request": with nothing presented a step changes nothing. -/
def Obligations.WithoutARequestTheBlockWaits : Prop :=
  ∀ s : State, s.inputs = [] → step s = .next s

/-- R13, R150: the codes of `STATUS`; codes 6 and 7 are never written, and two values never share a code. -/
def Obligations.StatusCodesAreThoseOfTheTable : Prop :=
  Status.code .ok = 0 ∧ Status.code (.error .framingError) = 1 ∧ Status.code (.error .checksumError) = 2 ∧
  Status.code (.error .checksumMismatch) = 3 ∧ Status.code (.error .rangeError) = 4 ∧
  Status.code (.error .lengthError) = 5 ∧
  (∀ st : Status, st.code ≠ 6 ∧ st.code ≠ 7) ∧ (∀ a b : Status, a.code = b.code → a = b)

/-- R48: requests written out from the operation map decode to the operations they stand for. -/
def Obligations.WrittenOutRequestsDecode : Prop :=
  decode { opsel := 0x01, kind := 0x1234, ibuf := [0xAB] } = .ok (.envEnc 0x1234 [0xAB]) ∧
  decode { opsel := 0x12, ibuf := [0x21, 0x20] } = .ok (.subDec [0x21, 0x20]) ∧
  decode { opsel := 0x24, action := 2, index := 31, queue := 1 } = .ok (.fnPack 2 31) ∧
  decode { opsel := 0x35, mode := 2, addr := 1234, mag := 64, fwd := 1 } = .ok (.locoDrive 2 1234 64 1) ∧
  decode { opsel := 0x46, ibuf := [0x00] } = .ok (.rfbDec [0x00]) ∧
  decode { opsel := 0x39, addr := 3 } = .error (.unknownSelector 0x39)

/-- The request presented next runs the operation it decodes to, on the state without it. -/
def Obligations.StepRunsTheDecodedOperation : Prop :=
  ∀ (s : State) (r : Request) (rest : List HostInput) (i : Instr), s.inputs = .request r :: rest → decode r = .ok i →
    step s = exec i { s with inputs := rest }

/-- R48, R49: decoding an operation's request gives it back with every operand; and a request decodes to an operation
whose own request is the presented one with the ports its row does not name left out. -/
def Obligations.DecodeAndEncodeAgree : Prop :=
  (∀ i : Instr, decode (encode i) = .ok i) ∧
  (∀ (r : Request) (i : Instr), decode r = .ok i → encode i = r.read ∧ r.read.opsel = r.opsel) ∧
  (∀ r r' : Request, r.read = r'.read → r.opsel = r'.opsel →
    ∀ i : Instr, decode r = .ok i → decode r' = .ok i)

/-- R158, R51: a presented request is refused exactly when it is outside the contract, before every error check. -/
def Obligations.RefusedExactlyOutsideTheContract : Prop :=
  ∀ (s : State) (r : Request) (rest : List HostInput), s.inputs = .request r :: rest →
    ((∃ f, step s = .refused f) ↔ r.outsideContract)

/-- Every operation with its operands inside the contract answers, and no other, but STEP.DEC, which the model lets
answer on every operand (entry 6). -/
def Obligations.AnswersExactlyInsideTheContract : Prop :=
  ∀ (i : Instr) (s : State), (∃ t, exec i s = .next t) ↔ (i.wellFormed = true ∨ ∃ bytes, i = .stepDec bytes)

/-! ## The envelope framer -/

/-- R60, R61. -/
def Obligations.EnvEncFramesThePayload : Prop :=
  ∀ (kind : U16) (payload : Bytes) (s : State),
    (payload.length ≤ 65531 → ∃ t, exec (.envEnc kind payload) s = .next t ∧
      t.response = ⟨.ok,
        [BitVec.ofNat 8 ((payload.length + 4) % 256), BitVec.ofNat 8 ((payload.length + 4) / 256),
          BitVec.ofNat 8 (kind.toNat % 256), BitVec.ofNat 8 (kind.toNat / 256)] ++ payload, .output⟩ ∧
      t.inputs = s.inputs) ∧
    (65531 < payload.length → ∃ f, exec (.envEnc kind payload) s = .refused f)

/-- R62: too short for a header, declared below 4, declared beyond the buffer, or the envelope. -/
def Obligations.EnvDecTakesTheFirstEnvelope : Prop :=
  ∀ (buffer : Bytes) (s : State),
    (buffer.length < 4 → ∃ t, exec (.envDec buffer) s = .next t ∧ t.response = .raised .framingError ∧
      t.inputs = s.inputs) ∧
    (∀ (b0 b1 k0 k1 : Byte) (rest : Bytes) (n : Nat), buffer = b0 :: b1 :: k0 :: k1 :: rest →
      n = b0.toNat + 256 * b1.toNat →
      ∃ t, exec (.envDec buffer) s = .next t ∧ t.inputs = s.inputs ∧
        if n < 4 ∨ buffer.length < n then t.response = .raised .framingError
        else t.status = .ok ∧
          t.result = .envelope ⟨BitVec.ofNat 16 (k0.toNat + 256 * k1.toNat), (buffer.take n).drop 4⟩ n)

/-- R63: bytes beyond the declared length are not an error and not part of the result. -/
def Obligations.EnvDecIgnoresTrailingBytes : Prop :=
  ∀ (buffer extra : Bytes) (s t : State) (e : Envelope) (n : Nat), exec (.envDec buffer) s = .next t →
    t.status = .ok → t.result = .envelope e n →
    ∃ u, exec (.envDec (buffer ++ extra)) s = .next u ∧ u.status = .ok ∧ u.result = .envelope e n

/-- R64, R65: the scan of a buffer, one pass: exhausted; a failing decode, which ends it; or an envelope and the scan of
what lies behind it. -/
def Obligations.EnvScanDecodesEnvelopeByEnvelope : Prop :=
  ∀ (buffer : Bytes) (s : State), ∃ t es st, exec (.envScan buffer) s = .next t ∧ t.inputs = s.inputs ∧
    t.status = st ∧ t.result = .envelopes es ∧
    (buffer = [] → es = [] ∧ st = .ok) ∧
    (buffer ≠ [] → (∃ u, exec (.envDec buffer) s = .next u ∧ u.status = .error .framingError) →
      es = [] ∧ st = .error .framingError) ∧
    (∀ (u : State) (e : Envelope) (n : Nat), exec (.envDec buffer) s = .next u → u.status = .ok →
      u.result = .envelope e n →
      ∃ v rest, exec (.envScan (buffer.drop n)) s = .next v ∧ v.status = st ∧ v.result = .envelopes rest ∧
        es = e :: rest)

/-- R66: decode after encode, encode after decode, and the scan of envelopes laid end to end. -/
def Obligations.EnvelopeRoundTrips : Prop :=
  (∀ (kind : U16) (payload : Bytes) (s : State), payload.length ≤ 65531 →
    ∃ t u, exec (.envEnc kind payload) s = .next t ∧ exec (.envDec t.obuf) t = .next u ∧ u.status = .ok ∧
      u.result = .envelope ⟨kind, payload⟩ (payload.length + 4)) ∧
  (∀ (buffer : Bytes) (s t : State) (e : Envelope) (n : Nat), exec (.envDec buffer) s = .next t → t.status = .ok →
    t.result = .envelope e n →
    ∃ u, exec (.envEnc e.kind e.payload) s = .next u ∧ u.status = .ok ∧ u.obuf = buffer.take n) ∧
  (∀ (es : List Envelope) (s : State), (∀ e ∈ es, e.payload.length ≤ 65531) →
    ∃ t, exec (.envScan (es.flatMap fun e => envelopeBytes e.kind e.payload)) s = .next t ∧ t.status = .ok ∧
      t.result = .envelopes es)

/-- R65, R178: envelopes before damage stand; the damaged rest is abandoned. -/
def Obligations.ScanKeepsTheEnvelopesBeforeDamage : Prop :=
  ∀ (es : List Envelope) (tail : Bytes) (s u : State), (∀ e ∈ es, e.payload.length ≤ 65531) → tail ≠ [] →
    exec (.envDec tail) s = .next u → u.status = .error .framingError →
    ∃ t, exec (.envScan ((es.flatMap fun e => envelopeBytes e.kind e.payload) ++ tail)) s = .next t ∧
      t.status = .error .framingError ∧ t.result = .envelopes es

/-! ## The checksum generator and the sub-frame framer -/

/-- R75: the exclusive or of all bytes from 0x00; bit `k` is the parity of the bytes that have it. -/
def Obligations.XorfoldGivesTheParityOfEachBit : Prop :=
  ∀ (bytes : Bytes) (s : State), ∃ t b, exec (.xorfold bytes) s = .next t ∧ t.status = .ok ∧ t.result = .byte b ∧
    t.inputs = s.inputs ∧ b = bytes.foldl (fun a x => a ^^^ x) 0x00 ∧
    ∀ k < 8, b.getLsbD k = decide ((bytes.filter fun x => x.getLsbD k).length % 2 = 1)

/-- R76, and R77 for data of every length. -/
def Obligations.SubEncAppendsTheChecksum : Prop :=
  ∀ (cid : Byte) (data : Bytes) (s : State), ∃ t, exec (.subEnc cid data) s = .next t ∧
    t.response = ⟨.ok, [cid] ++ data ++ [([cid] ++ data).foldl (fun a x => a ^^^ x) 0x00], .output⟩ ∧
    t.inputs = s.inputs

/-- R78: the length first, then the checksum, then the command. -/
def Obligations.SubDecChecksAndOpens : Prop :=
  ∀ s : State,
    (∀ bytes : Bytes, bytes.length < 2 → ∃ t, exec (.subDec bytes) s = .next t ∧
      t.response = .raised .checksumError ∧ t.inputs = s.inputs) ∧
    (∀ (cid : Byte) (data : Bytes) (chk : Byte), ∃ t, exec (.subDec ([cid] ++ data ++ [chk])) s = .next t ∧
      t.inputs = s.inputs ∧
      if ([cid] ++ data).foldl (fun a x => a ^^^ x) 0x00 = chk then
        t.status = .ok ∧ t.result = .command ⟨cid, data⟩
      else t.response = .raised .checksumMismatch)

/-- R79: (a) the round trip, (b) zero sum, (c) one flipped bit is detected, (d) a change that keeps the parity of every
bit position is not. -/
def Obligations.SubFrameLaws : Prop :=
  ∀ s : State,
    (∀ (cid : Byte) (data : Bytes), ∃ t u, exec (.subEnc cid data) s = .next t ∧ exec (.subDec t.obuf) t = .next u ∧
      u.status = .ok ∧ u.result = .command ⟨cid, data⟩) ∧
    (∀ bytes : Bytes, 2 ≤ bytes.length →
      ((∃ t, exec (.subDec bytes) s = .next t ∧ t.status = .ok) ↔
        ∃ t, exec (.xorfold bytes) s = .next t ∧ t.result = .byte 0x00)) ∧
    (∀ (before after : Bytes) (b : Byte) (k : Nat), k < 8 → 2 ≤ (before ++ b :: after).length →
      (∃ t, exec (.subDec (before ++ b :: after)) s = .next t ∧ t.status = .ok) →
      ∃ u, exec (.subDec (before ++ (b ^^^ BitVec.ofNat 8 (2 ^ k)) :: after)) s = .next u ∧
        u.response = .raised .checksumMismatch) ∧
    (∀ bytes changed : Bytes, 2 ≤ bytes.length → 2 ≤ changed.length →
      (∀ k < 8, (bytes.filter fun x => x.getLsbD k).length % 2 = (changed.filter fun x => x.getLsbD k).length % 2) →
      (∃ t, exec (.subDec bytes) s = .next t ∧ t.status = .ok) →
      ∃ u, exec (.subDec changed) s = .next u ∧ u.status = .ok)

/-! ## The field encoders -/

/-- R90, R91. -/
def Obligations.AddrEncGivesTheMarkedPair : Prop :=
  ∀ (addr : BitVec 14) (s : State),
    (1 ≤ addr.toNat ∧ addr.toNat ≤ 9999 → ∃ t, exec (.addrEnc addr) s = .next t ∧
      t.response = ⟨.ok, [BitVec.ofNat 8 (addr.toNat / 256 + if 128 ≤ addr.toNat then 0xC0 else 0),
        BitVec.ofNat 8 (addr.toNat % 256)], .output⟩ ∧ t.inputs = s.inputs) ∧
    (addr.toNat = 0 ∨ 9999 < addr.toNat → ∃ f, exec (.addrEnc addr) s = .refused f)

/-- R92: every 14-bit value, the marker only when `Cfg.TRN_ADDR_MARKER` is true. -/
def Obligations.TaddrEncMarksOnlyByCfg : Prop :=
  ∀ (taddr : BitVec 14) (s : State), ∃ t, exec (.taddrEnc taddr) s = .next t ∧
    t.response = ⟨.ok,
      [BitVec.ofNat 8 (taddr.toNat / 256 +
          if Config.cfg.trnAddrMarker = true ∧ 128 ≤ taddr.toNat then 0xC0 else 0),
        BitVec.ofNat 8 (taddr.toNat % 256)], .output⟩ ∧ t.inputs = s.inputs

/-- R93. -/
def Obligations.SpdPackPutsDirectionAboveMagnitude : Prop :=
  ∀ (mag : BitVec 7) (fwd : BitVec 1) (s : State), ∃ t, exec (.spdPack mag fwd) s = .next t ∧
    t.response = ⟨.ok, [BitVec.ofNat 8 (128 * fwd.toNat + mag.toNat)], .output⟩ ∧ t.inputs = s.inputs

/-- R95; `Cfg.MAXMAG_128` is 128 (D16). -/
def Obligations.Pct2magConvertsByTheFormula : Prop :=
  Config.cfg.maxMag128 = 128 ∧ ∀ (mode : BitVec 2) (pct : BitVec 8) (s : State),
    (mode = 3 → ∃ f, exec (.pct2mag mode pct) s = .refused f) ∧
    (∀ (p : Int) (m : Nat), mode ≠ 3 → p = max (-100) (min 100 pct.toInt) →
      m = (if mode = 0 then Config.cfg.maxMag14 else if mode = 1 then Config.cfg.maxMag28
        else Config.cfg.maxMag128) →
      ∃ t mag fwd, exec (.pct2mag mode pct) s = .next t ∧ t.status = .ok ∧ t.result = .magnitude mag fwd ∧
        t.inputs = s.inputs ∧ mag.toNat = min 127 (p.natAbs * m / 100) ∧ (fwd = 1 ↔ 0 ≤ p))

/-- R95 with `MAXMAG_128` = 128 (D16): the four documented results, each packed by SPD.PACK to the documented byte, and
R176: one percent of either sign is the emergency stop. -/
def Obligations.DocumentedPercentagesAt128Steps : Prop :=
  ∀ s : State,
    (∀ pct mag fwd byte, (pct, mag, fwd, byte) ∈ ([(50, 64, 1, 0xC0), (100, 127, 1, 0xFF), (-50, 64, 0, 0x40),
        (0, 0, 1, 0x80)] : List (BitVec 8 × BitVec 7 × BitVec 1 × Byte)) →
      ∃ t u, exec (.pct2mag 2 pct) s = .next t ∧ t.status = .ok ∧ t.result = .magnitude mag fwd ∧
        exec (.spdPack mag fwd) t = .next u ∧ u.status = .ok ∧ u.obuf = [byte]) ∧
    (∃ t, exec (.pct2mag 2 1) s = .next t ∧ t.result = .magnitude 1 1) ∧
    (∃ t, exec (.pct2mag 2 (-1)) s = .next t ∧ t.result = .magnitude 1 0)

/-- R96. -/
def Obligations.FnPackPutsActionAboveIndex : Prop :=
  ∀ (action : BitVec 2) (index : Byte) (s : State),
    (action = 3 → ∃ f, exec (.fnPack action index) s = .refused f) ∧
    (action ≠ 3 → ∃ t, exec (.fnPack action index) s = .next t ∧ t.inputs = s.inputs ∧
      t.response = if index.toNat ≤ 31 then ⟨.ok, [BitVec.ofNat 8 (64 * action.toNat + index.toNat)], .output⟩
        else .raised .rangeError)

/-- R97, R45: each operand at its position, every other bit as `Cfg.TRN_FIXED` has it. -/
def Obligations.TrnPackPlacesEachOperand : Prop :=
  ∀ (output : Byte) (activate queue : BitVec 1) (s : State),
    (1 < output.toNat → ∃ t, exec (.trnPack output activate queue) s = .next t ∧
      t.response = .raised .rangeError ∧ t.inputs = s.inputs) ∧
    (output.toNat ≤ 1 → ∃ t b, exec (.trnPack output activate queue) s = .next t ∧
      t.response = ⟨.ok, [b], .output⟩ ∧ t.inputs = s.inputs ∧
      b = Config.cfg.trnFixed ||| (queue.setWidth 8 <<< Config.cfg.trnQBit.val) |||
        (activate.setWidth 8 <<< Config.cfg.trnABit.val) ||| (output <<< Config.cfg.trnPBit.val) ∧
      b.getLsbD Config.cfg.trnQBit = queue.getLsbD 0 ∧ b.getLsbD Config.cfg.trnABit = activate.getLsbD 0 ∧
      b.getLsbD Config.cfg.trnPBit = output.getLsbD 0 ∧
      b.getLsbD 7 = Config.cfg.trnFixed.getLsbD 7 ∧
      b.getLsbD Config.cfg.trnRsvBit = Config.cfg.trnFixed.getLsbD Config.cfg.trnRsvBit ∧
      ∀ k < 8, k ≠ Config.cfg.trnQBit.val → k ≠ Config.cfg.trnABit.val → k ≠ Config.cfg.trnPBit.val →
        b.getLsbD k = Config.cfg.trnFixed.getLsbD k)

/-! ## The command builders -/

/-- R112, R113, R114. -/
def Obligations.FixedCommandsAreTheirConstants : Prop :=
  ∀ s : State,
    (∃ t, exec .pwrOff s = .next t ∧ t.status = .ok ∧ t.inputs = s.inputs ∧
      t.result = .command ⟨Config.cfg.cidPower, [Config.cfg.dataPowerOff]⟩) ∧
    (∃ t, exec .verReq s = .next t ∧ t.status = .ok ∧ t.inputs = s.inputs ∧
      t.result = .command ⟨Config.cfg.cidVersion, [Config.cfg.dataVersion]⟩) ∧
    (∃ t, exec .fwverReq s = .next t ∧ t.status = .ok ∧ t.inputs = s.inputs ∧
      t.result = .command ⟨Config.cfg.cidFwversion, [Config.cfg.dataFwversion]⟩)

/-- R111: the power-on command, its sub-frame, and its seven bytes on the wire. -/
def Obligations.PowerOnEndToEnd : Prop :=
  ∀ s : State,
    (∃ t, exec .pwrOn s = .next t ∧ t.status = .ok ∧ t.inputs = s.inputs ∧
      t.result = .command ⟨Config.cfg.cidPower, [0x81]⟩) ∧
    (∃ t, exec (.subEnc Config.cfg.cidPower [0x81]) s = .next t ∧
      t.obuf = [Config.cfg.cidPower, 0x81, Config.cfg.cidPower ^^^ 0x81]) ∧
    (∃ t, sendCommand .pwrOn s = .next t ∧ t.status = .ok ∧
      t.obuf = [0x07, 0x00] ++ le16 Config.cfg.kindCmdWrapper ++
        [Config.cfg.cidPower, 0x81, Config.cfg.cidPower ^^^ 0x81])

/-- R115: the sub-id and the locomotive address pair. -/
def Obligations.LocoInfoCarriesTheAddress : Prop :=
  ∀ (addr : BitVec 14) (s : State),
    (1 ≤ addr.toNat ∧ addr.toNat ≤ 9999 → ∃ t u, exec (.locoInfo addr) s = .next t ∧ t.status = .ok ∧
      t.inputs = s.inputs ∧ exec (.addrEnc addr) s = .next u ∧
      t.result = .command ⟨Config.cfg.cidLocoInfo, [Config.cfg.subidLocoInfo] ++ u.obuf⟩) ∧
    (¬(1 ≤ addr.toNat ∧ addr.toNat ≤ 9999) → ∃ f, exec (.locoInfo addr) s = .refused f)

/-- R116: prefix byte of the mode, locomotive address pair, speed byte. -/
def Obligations.LocoDriveCarriesAddressAndSpeed : Prop :=
  ∀ (mode : BitVec 2) (addr : BitVec 14) (mag : BitVec 7) (fwd : BitVec 1) (s : State),
    (mode ≠ 3 → 1 ≤ addr.toNat ∧ addr.toNat ≤ 9999 →
      ∃ t u v, exec (.locoDrive mode addr mag fwd) s = .next t ∧ t.status = .ok ∧ t.inputs = s.inputs ∧
        exec (.addrEnc addr) s = .next u ∧ exec (.spdPack mag fwd) s = .next v ∧
        t.result = .command ⟨Config.cfg.cidLocoDrive,
          [if mode = 0 then Config.cfg.prefix14 else if mode = 1 then Config.cfg.prefix28
            else Config.cfg.prefix128] ++ u.obuf ++ v.obuf⟩) ∧
    (mode = 3 ∨ ¬(1 ≤ addr.toNat ∧ addr.toNat ≤ 9999) → ∃ f, exec (.locoDrive mode addr mag fwd) s = .refused f)

/-- R117, R153 (c): sub-id, locomotive address pair, function byte; `RangeError` above index 31; a refused operand is
refused whatever the index. -/
def Obligations.LocoFuncCarriesAddressAndFunction : Prop :=
  ∀ (addr : BitVec 14) (action : BitVec 2) (index : Byte) (s : State),
    (action ≠ 3 → 1 ≤ addr.toNat ∧ addr.toNat ≤ 9999 →
      (index.toNat ≤ 31 → ∃ t u v, exec (.locoFunc addr action index) s = .next t ∧ t.status = .ok ∧
        t.inputs = s.inputs ∧ exec (.addrEnc addr) s = .next u ∧ exec (.fnPack action index) s = .next v ∧
        t.result = .command ⟨Config.cfg.cidLocoFunc, [Config.cfg.subidLocoFunc] ++ u.obuf ++ v.obuf⟩) ∧
      (31 < index.toNat → ∃ t, exec (.locoFunc addr action index) s = .next t ∧
        t.response = .raised .rangeError ∧ t.inputs = s.inputs)) ∧
    (action = 3 ∨ ¬(1 ≤ addr.toNat ∧ addr.toNat ≤ 9999) → ∃ f, exec (.locoFunc addr action index) s = .refused f)

/-- R118: the turnout address pair alone. -/
def Obligations.TrnInfoCarriesTheAddress : Prop :=
  ∀ (taddr : BitVec 14) (s : State), ∃ t u, exec (.trnInfo taddr) s = .next t ∧ t.status = .ok ∧
    t.inputs = s.inputs ∧ exec (.taddrEnc taddr) s = .next u ∧
    t.result = .command ⟨Config.cfg.cidTrnInfo, u.obuf⟩

/-- R119: the turnout address pair and the turnout byte; `RangeError` when the output selector is above 1. -/
def Obligations.TrnSetCarriesAddressAndControl : Prop :=
  ∀ (taddr : BitVec 14) (output : Byte) (activate queue : BitVec 1) (s : State),
    (output.toNat ≤ 1 → ∃ t u v, exec (.trnSet taddr output activate queue) s = .next t ∧ t.status = .ok ∧
      t.inputs = s.inputs ∧ exec (.taddrEnc taddr) s = .next u ∧
      exec (.trnPack output activate queue) s = .next v ∧
      t.result = .command ⟨Config.cfg.cidTrnSet, u.obuf ++ v.obuf⟩) ∧
    (1 < output.toNat → ∃ t, exec (.trnSet taddr output activate queue) s = .next t ∧
      t.response = .raised .rangeError ∧ t.inputs = s.inputs)

/-- R120: SUB.ENC, then ENV.ENC of its bytes; and the bytes written out, which the rule marks as its own inference
("[derived: from `40_envelope.md` rule R60 and `41_subframe_checksum.md` rule R76]"). -/
def Obligations.CmdWrapFramesTheSubFrame : Prop :=
  ∀ (cid : Byte) (data : Bytes) (s : State),
    (data.length ≤ 65529 → ∃ t u v, exec (.cmdWrap cid data) s = .next t ∧ t.inputs = s.inputs ∧
      exec (.subEnc cid data) s = .next u ∧ exec (.envEnc Config.cfg.kindCmdWrapper u.obuf) u = .next v ∧
      t.response = v.response ∧
      t.response = ⟨.ok, le16 (BitVec.ofNat 16 (data.length + 6)) ++ le16 Config.cfg.kindCmdWrapper ++ [cid] ++ data ++
        [([cid] ++ data).foldl (fun a x => a ^^^ x) 0x00], .output⟩) ∧
    (65529 < data.length → ∃ f, exec (.cmdWrap cid data) s = .refused f)

/-- R120 after R66 and R79: what CMD.WRAP sends, the decoders open again. -/
def Obligations.WrappedCommandsAreReadBack : Prop :=
  ∀ (cid : Byte) (data : Bytes) (s : State), data.length ≤ 65529 →
    ∃ t u v w payload n, exec (.cmdWrap cid data) s = .next t ∧
      exec (.envDec t.obuf) t = .next u ∧ u.result = .envelope ⟨Config.cfg.kindCmdWrapper, payload⟩ n ∧
      n = t.obuf.length ∧ exec (.subDec payload) u = .next v ∧ v.status = .ok ∧ v.result = .command ⟨cid, data⟩ ∧
      exec (.ekind t.obuf) t = .next w ∧ w.status = .ok ∧ w.result = .effectiveKind (cid.setWidth 16)

/-- R58: the five pseudo-operations are their expansions. That SEND is refused as its builder is, and LOCO.DRIVE.PCT as
PCT2MAG is, is not in R58: it is R158 and the model's choice that a sequence ends at the first refusal (entry 14). -/
def Obligations.PseudoOperationsExpand : Prop :=
  ∀ s : State,
    (∀ b : BuilderCall,
      (∀ f, exec b.instr s = .refused f → sendCommand b s = .refused f) ∧
      (∀ t e, exec b.instr s = .next t → t.status = .error e → sendCommand b s = .next t) ∧
      (∀ t, exec b.instr s = .next t → t.status = .ok →
        ∃ c u, t.result = .command c ∧ exec (.cmdWrap c.commandId c.data) t = .next u ∧
          sendCommand b s = .next u)) ∧
    (∀ mode addr pct,
      (∀ f, exec (.pct2mag mode pct) s = .refused f → locoDrivePct mode addr pct s = .refused f) ∧
      (∀ t mag fwd, exec (.pct2mag mode pct) s = .next t → t.result = .magnitude mag fwd →
        locoDrivePct mode addr pct s = exec (.locoDrive mode addr mag fwd) t)) ∧
    (∀ mode addr fwd, locoStop mode addr fwd s = exec (.locoDrive mode addr 0 fwd) s ∧
      locoEstop mode addr fwd s = exec (.locoDrive mode addr 1 fwd) s) ∧
    (∀ bytes : Bytes, (subCheck bytes s).1 = exec (.xorfold bytes) s ∧
      ((subCheck bytes s).2 = true ↔
        2 ≤ bytes.length ∧ ∃ t, exec (.xorfold bytes) s = .next t ∧ t.result = .byte 0x00))

/-! ## The optional extension -/

/-- R130: ENV.DEC's three failures; another kind; the wrapper kind without and with a first payload byte. -/
def Obligations.EkindUnwrapsTheWrapperKind : Prop :=
  ∀ (buffer : Bytes) (s : State),
    (buffer.length < 4 → ∃ t, exec (.ekind buffer) s = .next t ∧ t.response = .raised .framingError ∧
      t.inputs = s.inputs) ∧
    (∀ (b0 b1 k0 k1 : Byte) (rest : Bytes) (n : Nat) (kind : U16), buffer = b0 :: b1 :: k0 :: k1 :: rest →
      n = b0.toNat + 256 * b1.toNat → kind.toNat = k0.toNat + 256 * k1.toNat →
      ∃ t, exec (.ekind buffer) s = .next t ∧ t.inputs = s.inputs ∧
        if n < 4 ∨ buffer.length < n then t.response = .raised .framingError
        else if kind ≠ Config.cfg.kindCmdWrapper then t.status = .ok ∧ t.result = .effectiveKind kind
        else match (buffer.take n).drop 4 with
          | [] => t.response = .raised .framingError
          | b :: _ => t.status = .ok ∧ t.result = .effectiveKind (BitVec.ofNat 16 b.toNat))

/-- R131: the low three bits of one status byte. -/
def Obligations.StepDecReadsTheLowThreeBits : Prop :=
  ∀ (b : Byte) (s : State), ∃ t m, exec (.stepDec [b]) s = .next t ∧ t.status = .ok ∧ t.result = .stepMode m ∧
    t.inputs = s.inputs ∧
    m = match b.toNat % 8 with
      | 0 => some .s14
      | 2 => some .s28
      | 4 => some .s128
      | _ => none

/-- R132, with ADDR.DEC undoing ADDR.ENC on the domain. -/
def Obligations.AddrDecDropsTheMarker : Prop :=
  (∀ (b0 b1 : Byte) (s : State), ∃ t a, exec (.addrDec [b0, b1]) s = .next t ∧ t.status = .ok ∧
    t.result = .address a ∧ t.inputs = s.inputs ∧ a.toNat = (b0.toNat % 64) * 256 + b1.toNat) ∧
  (∀ (bytes : Bytes) (s : State), bytes.length ≠ 2 → ∃ t, exec (.addrDec bytes) s = .next t ∧
    t.response = .raised .lengthError ∧ t.inputs = s.inputs) ∧
  (∀ (addr : BitVec 14) (s : State), 1 ≤ addr.toNat ∧ addr.toNat ≤ 9999 →
    ∃ t u, exec (.addrEnc addr) s = .next t ∧ exec (.addrDec t.obuf) t = .next u ∧ u.result = .address addr)

/-- R133: every field of the record, present with its byte and absent without it; the percentage is the open function
`Cfg.PCTDEC`, positive for forward with a non-zero magnitude at 128 steps (D30). -/
def Obligations.LocoStatReadsEveryPresentField : Prop :=
  (∀ (bytes : Bytes) (s : State), bytes.length < 2 → ∃ t, exec (.locoStat bytes) s = .next t ∧
    t.response = .raised .lengthError ∧ t.inputs = s.inputs) ∧
  (∀ (b0 b1 : Byte) (rest : Bytes) (s : State), ∃ t l, exec (.locoStat (b0 :: b1 :: rest)) s = .next t ∧
    t.status = .ok ∧ t.result = .locoStatus l ∧ t.inputs = s.inputs ∧
    l.address.toNat = (b0.toNat % 64) * 256 + b1.toNat ∧
    (rest = [] → l.busy = none ∧ l.stepMode = none) ∧
    (rest.length < 2 → l.forward = none ∧ l.magnitude = none ∧ l.speedPct = none) ∧
    (rest.length < 3 → l.doubleTraction = none ∧ l.smartSearch = none ∧ l.functions = none) ∧
    (∀ b2 : Byte, rest[0]? = some b2 → l.busy = some (b2.getLsbD 3) ∧
      ∃ v, exec (.stepDec [b2]) s = .next v ∧ v.result = .stepMode l.stepMode) ∧
    (∀ b3 : Byte, rest[1]? = some b3 → l.forward = some (b3.getLsbD 7) ∧
      (∃ m, l.magnitude = some m ∧ m.toNat = b3.toNat % 128 ∧
        (l.speedPct = l.stepMode.map fun sm => Config.cfg.pctdec sm (b3.getLsbD 7) m) ∧
        (l.stepMode = some .s128 → b3.getLsbD 7 = true → m ≠ 0 → ∃ p, l.speedPct = some p ∧ 0 < p))) ∧
    (∀ b4 : Byte, rest[2]? = some b4 → l.doubleTraction = some (b4.getLsbD 6) ∧
      l.smartSearch = some (b4.getLsbD 5) ∧
      ∃ f, l.functions = some f ∧ f.length = 32 ∧ f[0]? = some (some (b4.getLsbD 4)) ∧
        (∀ k < 4, f[1 + k]? = some (some (b4.getLsbD k))) ∧
        (∀ k < 8, f[5 + k]? = some (rest[3]?.map fun b => b.getLsbD k)) ∧
        (∀ k < 8, f[13 + k]? = some (rest[4]?.map fun b => b.getLsbD k)) ∧
        (∀ k < 8, f[21 + k]? = some (rest[5]?.map fun b => b.getLsbD k)) ∧
        (∀ k < 3, f[29 + k]? = some (rest[6]?.map fun b => b.getLsbD k))))

/-- R134. -/
def Obligations.TrnStatReadsAddressAndPosition : Prop :=
  (∀ (b0 b1 b2 : Byte) (s : State), ∃ t r, exec (.trnStat [b0, b1, b2]) s = .next t ∧ t.status = .ok ∧
    t.result = .turnoutStatus r ∧ t.inputs = s.inputs ∧ r.address.toNat = b0.toNat * 256 + b1.toNat ∧
    r.position = match b2.toNat % 4 with
      | 0 => .unknown
      | 1 => .p0
      | 2 => .p1
      | _ => .invalid) ∧
  (∀ (bytes : Bytes) (s : State), bytes.length ≠ 3 → ∃ t, exec (.trnStat bytes) s = .next t ∧
    t.response = .raised .lengthError ∧ t.inputs = s.inputs)

/-- R135: the four signed fields, the two unsigned ones, the masks and the three flags. The reserved byte is the model's
to carry (entry 7) and the statement says nothing of it. -/
def Obligations.SysTelemReadsTheRecord : Prop :=
  (∀ (b0 b1 b2 b3 b4 b5 b6 b7 b8 b9 b10 b11 b12 b13 b14 b15 : Byte) (s : State), ∃ t r,
    exec (.sysTelem [b0, b1, b2, b3, b4, b5, b6, b7, b8, b9, b10, b11, b12, b13, b14, b15]) s = .next t ∧
    t.status = .ok ∧ t.result = .telemetry r ∧ t.inputs = s.inputs ∧
    r.current1 = (b0.toNat : Int) + 256 * b1.toNat - (if 128 ≤ b1.toNat then 65536 else 0) ∧
    r.current2 = (b2.toNat : Int) + 256 * b3.toNat - (if 128 ≤ b3.toNat then 65536 else 0) ∧
    r.currentFiltered = (b4.toNat : Int) + 256 * b5.toNat - (if 128 ≤ b5.toNat then 65536 else 0) ∧
    r.temperature = (b6.toNat : Int) + 256 * b7.toNat - (if 128 ≤ b7.toNat then 65536 else 0) ∧
    r.voltage1.toNat = b8.toNat + 256 * b9.toNat ∧ r.voltage2.toNat = b10.toNat + 256 * b11.toNat ∧
    r.state = b12 ∧ r.stateEx = b13 ∧ r.capabilities = b15 ∧
    r.trackOff = b12.getLsbD 1 ∧ r.shortCircuit = b12.getLsbD 2 ∧ r.programmingMode = b12.getLsbD 5) ∧
  (∀ (bytes : Bytes) (s : State), bytes.length ≠ 16 → ∃ t, exec (.sysTelem bytes) s = .next t ∧
    t.response = .raised .lengthError ∧ t.inputs = s.inputs)

/-- R136; the reserved bytes are the model's to carry (entry 7) and the statement says nothing of them. -/
def Obligations.RfbDecReadsTheRecord : Prop :=
  (∀ (b0 b1 b2 b3 b4 b5 b6 b7 b8 b9 b10 b11 b12 : Byte) (s : State), ∃ t r,
    exec (.rfbDec [b0, b1, b2, b3, b4, b5, b6, b7, b8, b9, b10, b11, b12]) s = .next t ∧
    t.status = .ok ∧ t.result = .feedback r ∧ t.inputs = s.inputs ∧
    r.address.toNat = b0.toNat + 256 * b1.toNat ∧
    r.receiveCounter.toNat = b2.toNat + 256 * b3.toNat + 65536 * b4.toNat + 16777216 * b5.toNat ∧
    r.errorCounter.toNat = b6.toNat + 256 * b7.toNat ∧
    r.options = b9 ∧ r.speedVariant1Valid = b9.getLsbD 0 ∧ r.speedVariant2Valid = b9.getLsbD 1 ∧
    r.qosValid = b9.getLsbD 2 ∧ r.speed = b10 ∧ r.qos = b11) ∧
  (∀ (bytes : Bytes) (s : State), bytes.length ≠ 13 → ∃ t, exec (.rfbDec bytes) s = .next t ∧
    t.response = .raised .lengthError ∧ t.inputs = s.inputs)

/-! ## The whole machine -/

/-- R15: the response, or the refusal, is a function of the operation and its operands alone. -/
def Obligations.NoResponseDependsOnEarlierOperations : Prop :=
  ∀ (i : Instr) (s s' : State),
    (∀ t, exec i s = .next t → ∃ t', exec i s' = .next t' ∧ t'.response = t.response) ∧
    (∀ f, exec i s = .refused f → exec i s' = .refused f)

/-- R151: who raises which error, exactly when; an operation not in the table raises nothing. -/
def Obligations.ErrorsAreRaisedExactlyByTheTable : Prop :=
  ∀ (i : Instr) (s t : State) (e : ErrorKind), exec i s = .next t →
    (t.status = .error e ↔
      match i with
      | .envDec buffer => e = .framingError ∧
          (buffer.length < 4 ∨ ∃ b0 b1 rest, buffer = b0 :: b1 :: rest ∧
            (b0.toNat + 256 * b1.toNat < 4 ∨ buffer.length < b0.toNat + 256 * b1.toNat))
      | .envScan buffer => e = .framingError ∧
          ¬∃ es : List Envelope, (∀ k ∈ es, k.payload.length ≤ 65531) ∧
            buffer = es.flatMap fun k => envelopeBytes k.kind k.payload
      | .subDec bytes => (e = .checksumError ∧ bytes.length < 2) ∨
          (e = .checksumMismatch ∧ 2 ≤ bytes.length ∧
            some (bytes.dropLast.foldl (fun a x => a ^^^ x) 0x00) ≠ bytes.getLast?)
      | .fnPack _ index => e = .rangeError ∧ 31 < index.toNat
      | .locoFunc _ _ index => e = .rangeError ∧ 31 < index.toNat
      | .trnPack output _ _ => e = .rangeError ∧ 1 < output.toNat
      | .trnSet _ output _ _ => e = .rangeError ∧ 1 < output.toNat
      | .ekind buffer => e = .framingError ∧
          ∃ u, exec (.envDec buffer) s = .next u ∧ (u.status = .error .framingError ∨
            ∃ k n, u.result = .envelope k n ∧ k.kind = Config.cfg.kindCmdWrapper ∧ k.payload = [])
      | .addrDec bytes => e = .lengthError ∧ bytes.length ≠ 2
      | .trnStat bytes => e = .lengthError ∧ bytes.length ≠ 3
      | .sysTelem bytes => e = .lengthError ∧ bytes.length ≠ 16
      | .rfbDec bytes => e = .lengthError ∧ bytes.length ≠ 13
      | .locoStat bytes => e = .lengthError ∧ bytes.length < 2
      | _ => False)

/-- R155, R156: an error leaves no output and no result (ENV.SCAN's envelopes stand, R50), and every operation after it
answers as if the failed one had not been issued. -/
def Obligations.AnErrorLeavesNothingBehind : Prop :=
  ∀ (i : Instr) (s t : State) (e : ErrorKind), exec i s = .next t → t.status = .error e →
    t.obuf = [] ∧ ((∀ buffer, i ≠ .envScan buffer) → t.result = .none) ∧
    ∀ (j : Instr) (u : State), exec j s = .next u → ∃ v, exec j t = .next v ∧ v.response = u.response

/-- The frame of every operation: what the host presents next is left alone, and the model's counter of free values
moves on by one (entry 4); every other element of the state is the operation's to write (R12, R13). -/
def Obligations.OperationsLeaveTheHostsInputsAlone : Prop :=
  ∀ (i : Instr) (s t : State), exec i s = .next t → t.inputs = s.inputs ∧ t.freeTick = s.freeTick + 1

/-- What stands in `OBUF` after an operation (R12, R17; entry 5): the same bytes from whatever state it started, so nothing
an earlier operation left; none after a decoder, XORFOLD and PCT2MAG; after a builder its command's data, or none where it
raised; after an operation that gives bytes at least one, or none where it raised. -/
def Obligations.OutputHoldsOnlyWhatTheOperationWrites : Prop :=
  ∀ (i : Instr) (s t : State), exec i s = .next t →
    (∀ s' : State, ∃ t', exec i s' = .next t' ∧ t'.obuf = t.obuf) ∧
    match i with
    | .envDec _ | .envScan _ | .xorfold _ | .subDec _ | .pct2mag _ _ | .ekind _ | .stepDec _ | .addrDec _
    | .locoStat _ | .trnStat _ | .sysTelem _ | .rfbDec _ => t.obuf = []
    | .pwrOn | .pwrOff | .verReq | .fwverReq | .locoInfo _ | .locoDrive _ _ _ _ | .locoFunc _ _ _ | .trnInfo _
    | .trnSet _ _ _ _ =>
        (∃ c, t.status = .ok ∧ t.result = .command c ∧ t.obuf = c.data) ∨
          (t.status = .error .rangeError ∧ t.obuf = [])
    | .envEnc _ _ | .subEnc _ _ | .addrEnc _ | .taddrEnc _ | .spdPack _ _ | .fnPack _ _ | .trnPack _ _ _
    | .cmdWrap _ _ => (t.status = .ok ∧ t.result = .output ∧ t.obuf ≠ []) ∨
          (t.status = .error .rangeError ∧ t.obuf = [])

/-- The invariant at reset. -/
def Obligations.ResetHasTheResponseShape : Prop := State.reset.Shaped

/-- The invariant: every step keeps the shape of the response (`Response.Shaped`: R50, R155, R65, R40, R62, R133). -/
def Obligations.EveryStepKeepsTheResponseShape : Prop :=
  ∀ s t : State, s.Shaped → step s = .next t → t.Shaped
end

