-- ==== Sys2Proof/Laws/State.lean ====
section
/-! SUPPORT. What each update of the state does to each field, so that no proof unfolds an update. -/

namespace Sys2Proof.Machine

variable (s : State)

/-! ## `State.start` -/

@[simp] theorem State.start_status (input : Bytes) : (s.start input).status = s.status := rfl
@[simp] theorem State.start_acc (input : Bytes) : (s.start input).acc = 0 := rfl
@[simp] theorem State.start_len (input : Bytes) : (s.start input).len = 0 := rfl
@[simp] theorem State.start_pos (input : Bytes) : (s.start input).pos = 0 := rfl
@[simp] theorem State.start_ibuf (input : Bytes) : (s.start input).ibuf = input := rfl
@[simp] theorem State.start_obuf (input : Bytes) : (s.start input).obuf = [] := rfl
@[simp] theorem State.start_result (input : Bytes) : (s.start input).result = .none := rfl
@[simp] theorem State.start_inputs (input : Bytes) : (s.start input).inputs = s.inputs := rfl
@[simp] theorem State.start_freeTick (input : Bytes) : (s.start input).freeTick = s.freeTick := rfl

/-! ## `State.foldByte` -/

@[simp] theorem State.foldByte_status (b : Byte) : (s.foldByte b).status = s.status := rfl
@[simp] theorem State.foldByte_acc (b : Byte) : (s.foldByte b).acc = s.acc ^^^ b := rfl
@[simp] theorem State.foldByte_len (b : Byte) : (s.foldByte b).len = s.len := rfl
@[simp] theorem State.foldByte_pos (b : Byte) : (s.foldByte b).pos = s.pos := rfl
@[simp] theorem State.foldByte_ibuf (b : Byte) : (s.foldByte b).ibuf = s.ibuf := rfl
@[simp] theorem State.foldByte_obuf (b : Byte) : (s.foldByte b).obuf = s.obuf := rfl
@[simp] theorem State.foldByte_result (b : Byte) : (s.foldByte b).result = s.result := rfl
@[simp] theorem State.foldByte_inputs (b : Byte) : (s.foldByte b).inputs = s.inputs := rfl
@[simp] theorem State.foldByte_freeTick (b : Byte) : (s.foldByte b).freeTick = s.freeTick := rfl

/-! ## `State.setLen` -/

@[simp] theorem State.setLen_status (n : Nat) : (s.setLen n).status = s.status := rfl
@[simp] theorem State.setLen_acc (n : Nat) : (s.setLen n).acc = s.acc := rfl
@[simp] theorem State.setLen_len (n : Nat) : (s.setLen n).len = BitVec.ofNat 17 n := rfl
@[simp] theorem State.setLen_pos (n : Nat) : (s.setLen n).pos = s.pos := rfl
@[simp] theorem State.setLen_ibuf (n : Nat) : (s.setLen n).ibuf = s.ibuf := rfl
@[simp] theorem State.setLen_obuf (n : Nat) : (s.setLen n).obuf = s.obuf := rfl
@[simp] theorem State.setLen_result (n : Nat) : (s.setLen n).result = s.result := rfl
@[simp] theorem State.setLen_inputs (n : Nat) : (s.setLen n).inputs = s.inputs := rfl
@[simp] theorem State.setLen_freeTick (n : Nat) : (s.setLen n).freeTick = s.freeTick := rfl

/-! ## `State.advance` -/

@[simp] theorem State.advance_status (n : Nat) : (s.advance n).status = s.status := rfl
@[simp] theorem State.advance_acc (n : Nat) : (s.advance n).acc = s.acc := rfl
@[simp] theorem State.advance_len (n : Nat) : (s.advance n).len = s.len := rfl
@[simp] theorem State.advance_pos (n : Nat) : (s.advance n).pos = s.pos + n := rfl
@[simp] theorem State.advance_ibuf (n : Nat) : (s.advance n).ibuf = s.ibuf := rfl
@[simp] theorem State.advance_obuf (n : Nat) : (s.advance n).obuf = s.obuf := rfl
@[simp] theorem State.advance_result (n : Nat) : (s.advance n).result = s.result := rfl
@[simp] theorem State.advance_inputs (n : Nat) : (s.advance n).inputs = s.inputs := rfl
@[simp] theorem State.advance_freeTick (n : Nat) : (s.advance n).freeTick = s.freeTick := rfl

/-! ## `State.memWrite` -/

@[simp] theorem State.memWrite_status (bs : Bytes) : (s.memWrite bs).status = s.status := rfl
@[simp] theorem State.memWrite_acc (bs : Bytes) : (s.memWrite bs).acc = s.acc := rfl
@[simp] theorem State.memWrite_len (bs : Bytes) : (s.memWrite bs).len = s.len := rfl
@[simp] theorem State.memWrite_pos (bs : Bytes) : (s.memWrite bs).pos = s.pos := rfl
@[simp] theorem State.memWrite_ibuf (bs : Bytes) : (s.memWrite bs).ibuf = s.ibuf := rfl
@[simp] theorem State.memWrite_obuf (bs : Bytes) : (s.memWrite bs).obuf = s.obuf ++ bs := rfl
@[simp] theorem State.memWrite_result (bs : Bytes) : (s.memWrite bs).result = s.result := rfl
@[simp] theorem State.memWrite_inputs (bs : Bytes) : (s.memWrite bs).inputs = s.inputs := rfl
@[simp] theorem State.memWrite_freeTick (bs : Bytes) : (s.memWrite bs).freeTick = s.freeTick := rfl

/-! ## `State.release` -/

@[simp] theorem State.release_status : s.release.status = s.status := rfl
@[simp] theorem State.release_acc : s.release.acc = Config.freeAcc s.freeTick := rfl
@[simp] theorem State.release_len : s.release.len = Config.freeLen s.freeTick := rfl
@[simp] theorem State.release_pos : s.release.pos = Config.freePos s.freeTick := rfl
@[simp] theorem State.release_ibuf : s.release.ibuf = Config.freeInput s.freeTick := rfl
@[simp] theorem State.release_obuf : s.release.obuf = s.obuf := rfl
@[simp] theorem State.release_result : s.release.result = s.result := rfl
@[simp] theorem State.release_inputs : s.release.inputs = s.inputs := rfl
@[simp] theorem State.release_freeTick : s.release.freeTick = s.freeTick + 1 := rfl

/-! ## `State.applyReset` -/

@[simp] theorem State.applyReset_status : s.applyReset.status = .ok := rfl
@[simp] theorem State.applyReset_acc : s.applyReset.acc = 0 := rfl
@[simp] theorem State.applyReset_len : s.applyReset.len = 0 := rfl
@[simp] theorem State.applyReset_pos : s.applyReset.pos = 0 := rfl
@[simp] theorem State.applyReset_ibuf : s.applyReset.ibuf = [] := rfl
@[simp] theorem State.applyReset_obuf : s.applyReset.obuf = [] := rfl
@[simp] theorem State.applyReset_result : s.applyReset.result = .none := rfl
@[simp] theorem State.applyReset_inputs : s.applyReset.inputs = s.inputs := rfl
@[simp] theorem State.applyReset_freeTick : s.applyReset.freeTick = s.freeTick := rfl

/-! ## `State.present` -/

@[simp] theorem State.present_status (r : Request) : (s.present r).status = s.status := rfl
@[simp] theorem State.present_acc (r : Request) : (s.present r).acc = s.acc := rfl
@[simp] theorem State.present_len (r : Request) : (s.present r).len = s.len := rfl
@[simp] theorem State.present_pos (r : Request) : (s.present r).pos = s.pos := rfl
@[simp] theorem State.present_ibuf (r : Request) : (s.present r).ibuf = s.ibuf := rfl
@[simp] theorem State.present_obuf (r : Request) : (s.present r).obuf = s.obuf := rfl
@[simp] theorem State.present_result (r : Request) : (s.present r).result = s.result := rfl
@[simp] theorem State.present_inputs (r : Request) : (s.present r).inputs = .request r :: s.inputs := rfl
@[simp] theorem State.present_freeTick (r : Request) : (s.present r).freeTick = s.freeTick := rfl

end Sys2Proof.Machine
end

