-- ==== Sys2Proof/Laws/Ops.lean ====
section
/-! SUPPORT. What each shared operation does, once: the ends of an operation, the frames, the refusals, and the parts of
the framers. -/

namespace Sys2Proof.Machine

/-! ## Exclusive or (41_subframe_checksum.md R75, R80) -/

theorem foldl_xor (bs : Bytes) (a : Byte) : bs.foldl (fun x y => x ^^^ y) a = a ^^^ xorFold bs := by
  induction bs generalizing a with
  | nil => simp [xorFold]
  | cons b bs ih => simp only [xorFold, List.foldl_cons] at ih ⊢; rw [ih, ih (0 ^^^ b)]; simp [BitVec.xor_assoc]

@[simp] theorem xorFold_nil : xorFold [] = 0 := rfl

@[simp] theorem xorFold_cons (b : Byte) (bs : Bytes) : xorFold (b :: bs) = b ^^^ xorFold bs := by
  simpa [xorFold] using foldl_xor bs (0 ^^^ b)

@[simp] theorem xorFold_append (as bs : Bytes) : xorFold (as ++ bs) = xorFold as ^^^ xorFold bs := by
  simpa [xorFold] using foldl_xor bs (as.foldl (fun x y => x ^^^ y) 0)

theorem State.foldBytes_eq (bs : Bytes) (s : State) :
    s.foldBytes bs = { s with acc := s.acc ^^^ xorFold bs } := by
  induction bs generalizing s with
  | nil => simp [State.foldBytes]
  | cons b bs ih =>
    have : s.foldBytes (b :: bs) = (s.foldByte b).foldBytes bs := rfl
    rw [this, ih]; simp [State.foldByte, BitVec.xor_assoc]

@[simp] theorem State.foldBytes_acc (bs : Bytes) (s : State) : (s.foldBytes bs).acc = s.acc ^^^ xorFold bs := by
  rw [State.foldBytes_eq]
@[simp] theorem State.foldBytes_ibuf (bs : Bytes) (s : State) : (s.foldBytes bs).ibuf = s.ibuf := by
  rw [State.foldBytes_eq]
@[simp] theorem State.foldBytes_obuf (bs : Bytes) (s : State) : (s.foldBytes bs).obuf = s.obuf := by
  rw [State.foldBytes_eq]
@[simp] theorem State.foldBytes_inputs (bs : Bytes) (s : State) : (s.foldBytes bs).inputs = s.inputs := by
  rw [State.foldBytes_eq]
@[simp] theorem State.foldBytes_freeTick (bs : Bytes) (s : State) : (s.foldBytes bs).freeTick = s.freeTick := by
  rw [State.foldBytes_eq]

/-! ## The frames written to `OBUF` -/

theorem State.frameEnvelope_obuf (kind : U16) (s : State) :
    (s.frameEnvelope kind).obuf = s.obuf ++ envelopeBytes kind s.ibuf := by
  simp only [State.frameEnvelope, envelopeBytes, State.memWrite_obuf, State.setLen_obuf, State.setLen_len,
    State.setLen_ibuf, le16, envMinLen]
  congr 3
  refine List.cons_eq_cons.2 ⟨?_, List.cons_eq_cons.2 ⟨?_, rfl⟩⟩ <;>
    (apply BitVec.eq_of_toNat_eq; simp [BitVec.extractLsb'_toNat, Nat.shiftRight_eq_div_pow]; try omega)

@[simp] theorem State.frameEnvelope_inputs (kind : U16) (s : State) : (s.frameEnvelope kind).inputs = s.inputs := rfl
@[simp] theorem State.frameEnvelope_freeTick (kind : U16) (s : State) : (s.frameEnvelope kind).freeTick = s.freeTick :=
  rfl

theorem State.frameCommand_obuf (cid : Byte) (s : State) :
    (s.frameCommand cid).obuf = s.obuf ++ (cid :: s.ibuf ++ [s.acc ^^^ xorFold (cid :: s.ibuf)]) := by
  simp [State.frameCommand]

@[simp] theorem State.frameCommand_inputs (cid : Byte) (s : State) : (s.frameCommand cid).inputs = s.inputs := by
  simp [State.frameCommand]
@[simp] theorem State.frameCommand_freeTick (cid : Byte) (s : State) : (s.frameCommand cid).freeTick = s.freeTick := by
  simp [State.frameCommand]

/-! ## The ends of an operation: response, inputs, counter -/

variable (s : State)

@[simp] theorem State.respond_response (st : Status) (r : Result) : (s.respond st r).response = ⟨st, s.obuf, r⟩ := rfl
@[simp] theorem State.respond_inputs (st : Status) (r : Result) : (s.respond st r).inputs = s.inputs := rfl
@[simp] theorem State.respond_freeTick (st : Status) (r : Result) : (s.respond st r).freeTick = s.freeTick + 1 := rfl

@[simp] theorem State.finish_response (r : Result) : (s.finish r).response = ⟨.ok, s.obuf, r⟩ := rfl
@[simp] theorem State.finish_inputs (r : Result) : (s.finish r).inputs = s.inputs := rfl
@[simp] theorem State.finish_freeTick (r : Result) : (s.finish r).freeTick = s.freeTick + 1 := rfl

@[simp] theorem State.output_response (bs : Bytes) : (s.output bs).response = ⟨.ok, s.obuf ++ bs, .output⟩ := rfl
@[simp] theorem State.output_inputs (bs : Bytes) : (s.output bs).inputs = s.inputs := rfl
@[simp] theorem State.output_freeTick (bs : Bytes) : (s.output bs).freeTick = s.freeTick + 1 := rfl

@[simp] theorem State.raise_response (e : ErrorKind) : (s.raise e).response = Response.raised e := rfl
@[simp] theorem State.raise_inputs (e : ErrorKind) : (s.raise e).inputs = s.inputs := rfl
@[simp] theorem State.raise_freeTick (e : ErrorKind) : (s.raise e).freeTick = s.freeTick + 1 := rfl

/-- A check decides between the bytes and the error. -/
theorem State.outputIf_response (st : Status) (bs : Bytes) :
    (s.outputIf st bs).response =
      match st with
      | .ok => ⟨.ok, s.obuf ++ bs, .output⟩
      | .error e => Response.raised e := by
  cases st <;> rfl

@[simp] theorem State.outputIf_inputs (st : Status) (bs : Bytes) : (s.outputIf st bs).inputs = s.inputs := by
  cases st <;> rfl
@[simp] theorem State.outputIf_freeTick (st : Status) (bs : Bytes) : (s.outputIf st bs).freeTick = s.freeTick + 1 := by
  cases st <;> rfl

/-- A check decides between the command, its data in `OBUF`, and the error. -/
theorem State.commandIf_response (st : Status) (c : Command) :
    (s.commandIf st c).response =
      match st with
      | .ok => ⟨.ok, s.obuf ++ c.data, .command c⟩
      | .error e => Response.raised e := by
  cases st <;> rfl

@[simp] theorem State.commandIf_inputs (st : Status) (c : Command) : (s.commandIf st c).inputs = s.inputs := by
  cases st <;> rfl
@[simp] theorem State.commandIf_freeTick (st : Status) (c : Command) :
    (s.commandIf st c).freeTick = s.freeTick + 1 := by
  cases st <;> rfl

/-- A record decoder answers its record or `LengthError`. -/
theorem State.record_response (r : Option Result) :
    (s.record r).response =
      match r with
      | some r => ⟨.ok, s.obuf, r⟩
      | none => Response.raised .lengthError := by
  cases r <;> rfl

@[simp] theorem State.record_inputs (r : Option Result) : (s.record r).inputs = s.inputs := by cases r <;> rfl
@[simp] theorem State.record_freeTick (r : Option Result) : (s.record r).freeTick = s.freeTick + 1 := by
  cases r <;> rfl

/-! ## Refusals -/

@[simp] theorem locoAddrCheck_eq_none (addr : BitVec 14) :
    locoAddrCheck addr = none ↔ 1 ≤ addr.toNat ∧ addr.toNat ≤ 9999 := by
  unfold locoAddrCheck; split <;> simp_all [addrMin, addrMax]

@[simp] theorem actionCheck_eq_none (action : BitVec 2) : actionCheck action = none ↔ action ≠ 3 := by
  simp [actionCheck]

@[simp] theorem payloadCheck_eq_none (payload : Bytes) : payloadCheck payload = none ↔ payload.length ≤ 65531 := by
  unfold payloadCheck; split <;> simp_all [maxPayload]

@[simp] theorem dataCheck_eq_none (data : Bytes) : dataCheck data = none ↔ data.length ≤ 65529 := by
  unfold dataCheck; split <;> simp_all [maxData]

/-- A guarded operation answers its next state exactly when no check refuses. -/
theorem guarded_eq_next (checks : List (Option Refusal)) (t u : State) :
    guarded checks t = .next u ↔ (∀ c ∈ checks, c = none) ∧ t = u := by
  unfold guarded
  cases h : checks.findSome? id with
  | none => simp only [Host.Outcome.next.injEq, List.findSome?_eq_none_iff, id] at h ⊢; tauto
  | some r =>
    obtain ⟨c, hc, hr⟩ := List.exists_of_findSome?_eq_some h
    simp only [reduceCtorEq, false_iff, not_and]
    intro hn; simp [hn c hc] at hr

/-- With no check refusing, a guarded operation answers. -/
theorem guarded_of_none {checks : List (Option Refusal)} (h : ∀ c ∈ checks, c = none) (t : State) :
    guarded checks t = .next t := (guarded_eq_next checks t t).2 ⟨h, rfl⟩

/-- The three legal modes run; the fourth is refused. -/
theorem withMode_eq_next {mode : BitVec 2} {run : StepMode → Host.Outcome State Fault Refusal} {u : State} :
    withMode mode run = .next u ↔ ∃ m, stepModeOf mode = some m ∧ run m = .next u := by
  unfold withMode
  cases h : stepModeOf mode <;> simp

@[simp] theorem stepModeOf_eq_none (mode : BitVec 2) : stepModeOf mode = none ↔ mode = 3 := by
  revert mode; decide

/-! ## The envelope decoder and the scan -/

theorem u16le_toNat (b0 b1 : Byte) : (u16le b0 b1).toNat = b0.toNat + 256 * b1.toNat := by
  have := b0.isLt; have := b1.isLt
  simp only [u16le, BitVec.toNat_ofNat]; omega

/-- `u16le` reads back what `le16` wrote (40_envelope.md R67). -/
theorem u16le_le16 (v : U16) : u16le (v.extractLsb' 0 8) (v.extractLsb' 8 8) = v := by
  apply BitVec.eq_of_toNat_eq
  rw [u16le_toNat]
  have := v.isLt
  simp [BitVec.extractLsb'_toNat, Nat.shiftRight_eq_div_pow]; omega

/-- Everything ENV.DEC accepts (40_envelope.md R62). -/
theorem envDecode_eq_some {buffer : Bytes} {e : Envelope} {n : Nat} :
    envDecode buffer = some (e, n) ↔
      ∃ b0 b1 k0 k1 rest, buffer = b0 :: b1 :: k0 :: k1 :: rest ∧ n = (u16le b0 b1).toNat ∧ 4 ≤ n ∧
        n ≤ buffer.length ∧ e = ⟨u16le k0 k1, slice buffer 4 n⟩ := by
  match buffer with
  | [] => simp [envDecode, framingStatus]
  | [_] => simp [envDecode, framingStatus]
  | [_, _] => simp [envDecode, framingStatus]
  | [_, _, _] => simp [envDecode, framingStatus]
  | b0 :: b1 :: k0 :: k1 :: rest =>
    by_cases h1 : (u16le b0 b1).toNat < 4
    · simp only [envDecode, framingStatus, envMinLen, h1, if_true, reduceCtorEq, false_iff]
      rintro ⟨_, _, _, _, _, hb, rfl, h4, _⟩; cases hb; omega
    by_cases h2 : (b0 :: b1 :: k0 :: k1 :: rest).length < (u16le b0 b1).toNat
    · simp only [envDecode, framingStatus, envMinLen, h1, h2, if_true, if_false, reduceCtorEq, false_iff]
      rintro ⟨_, _, _, _, _, hb, rfl, _, hl, _⟩; cases hb; omega
    · simp only [envDecode, framingStatus, envMinLen, h1, h2, if_false]
      constructor
      · rintro h; cases h
        exact ⟨b0, b1, k0, k1, rest, rfl, rfl, by omega, by omega, rfl⟩
      · rintro ⟨_, _, _, _, _, hb, rfl, _, _, rfl⟩; cases hb; rfl

/-- A decoded envelope occupies its payload and 4 bytes of the buffer (R62, R67). -/
theorem envDecode_bounds {buffer : Bytes} {e : Envelope} {n : Nat} (h : envDecode buffer = some (e, n)) :
    4 ≤ n ∧ n ≤ buffer.length ∧ n ≤ 65535 ∧ e.payload.length + 4 = n := by
  obtain ⟨b0, b1, k0, k1, rest, hb, hn, h4, hl, rfl⟩ := envDecode_eq_some.1 h
  have := (u16le b0 b1).isLt
  refine ⟨h4, hl, by omega, ?_⟩
  simp only [slice, List.length_drop, List.length_take]; omega

/-- The scan leaves what the host presents and the counter alone. -/
theorem scanLoop_keeps (fuel : Nat) (out : List Envelope) (s : State) :
    (scanLoop fuel out s).2.2.inputs = s.inputs ∧ (scanLoop fuel out s).2.2.freeTick = s.freeTick ∧
      (scanLoop fuel out s).2.2.obuf = s.obuf := by
  induction fuel generalizing out s with
  | zero => exact ⟨rfl, rfl, rfl⟩
  | succ n ih =>
    unfold scanLoop
    split
    · split
      · exact ih _ _
      · exact ⟨rfl, rfl, rfl⟩
    · exact ⟨rfl, rfl, rfl⟩

end Sys2Proof.Machine
end

