-- ==== Sys2Proof/Laws/PerInstr.lean ====
section
/-! SUPPORT. Per-operation facts of the encoding: every operation's request carries a selector of 30_encoding.md R48. -/

namespace Sys2Proof.Laws.Selector

/-- The request of an operation has one of the 29 selectors. -/
def Statement (i : Instr) : Prop := (encode i).opsel ∈ Sys2Proof.Machine.selectors

theorem envEnc (kind : U16) (payload : Bytes) : Statement (.envEnc kind payload) := by
  simp [Statement, encode, Machine.selectors]
theorem envDec (buffer : Bytes) : Statement (.envDec buffer) := by
  simp [Statement, encode, Machine.selectors]
theorem envScan (buffer : Bytes) : Statement (.envScan buffer) := by
  simp [Statement, encode, Machine.selectors]
theorem xorfold (bytes : Bytes) : Statement (.xorfold bytes) := by
  simp [Statement, encode, Machine.selectors]
theorem subEnc (cid : Byte) (data : Bytes) : Statement (.subEnc cid data) := by
  simp [Statement, encode, Machine.selectors]
theorem subDec (bytes : Bytes) : Statement (.subDec bytes) := by
  simp [Statement, encode, Machine.selectors]
theorem addrEnc (addr : BitVec 14) : Statement (.addrEnc addr) := by
  simp [Statement, encode, Machine.selectors]
theorem taddrEnc (taddr : BitVec 14) : Statement (.taddrEnc taddr) := by
  simp [Statement, encode, Machine.selectors]
theorem spdPack (mag : BitVec 7) (fwd : BitVec 1) : Statement (.spdPack mag fwd) := by
  simp [Statement, encode, Machine.selectors]
theorem pct2mag (mode : BitVec 2) (pct : BitVec 8) : Statement (.pct2mag mode pct) := by
  simp [Statement, encode, Machine.selectors]
theorem fnPack (action : BitVec 2) (index : Byte) : Statement (.fnPack action index) := by
  simp [Statement, encode, Machine.selectors]
theorem trnPack (output : Byte) (activate queue : BitVec 1) : Statement (.trnPack output activate queue) := by
  simp [Statement, encode, Machine.selectors]
theorem pwrOn : Statement .pwrOn := by
  simp [Statement, encode, Machine.selectors]
theorem pwrOff : Statement .pwrOff := by
  simp [Statement, encode, Machine.selectors]
theorem verReq : Statement .verReq := by
  simp [Statement, encode, Machine.selectors]
theorem fwverReq : Statement .fwverReq := by
  simp [Statement, encode, Machine.selectors]
theorem locoInfo (addr : BitVec 14) : Statement (.locoInfo addr) := by
  simp [Statement, encode, Machine.selectors]
theorem locoDrive (mode : BitVec 2) (addr : BitVec 14) (mag : BitVec 7) (fwd : BitVec 1) : Statement (.locoDrive mode addr mag fwd) := by
  simp [Statement, encode, Machine.selectors]
theorem locoFunc (addr : BitVec 14) (action : BitVec 2) (index : Byte) : Statement (.locoFunc addr action index) := by
  simp [Statement, encode, Machine.selectors]
theorem trnInfo (taddr : BitVec 14) : Statement (.trnInfo taddr) := by
  simp [Statement, encode, Machine.selectors]
theorem trnSet (taddr : BitVec 14) (output : Byte) (activate queue : BitVec 1) : Statement (.trnSet taddr output activate queue) := by
  simp [Statement, encode, Machine.selectors]
theorem cmdWrap (cid : Byte) (data : Bytes) : Statement (.cmdWrap cid data) := by
  simp [Statement, encode, Machine.selectors]
theorem ekind (buffer : Bytes) : Statement (.ekind buffer) := by
  simp [Statement, encode, Machine.selectors]
theorem stepDec (bytes : Bytes) : Statement (.stepDec bytes) := by
  simp [Statement, encode, Machine.selectors]
theorem addrDec (bytes : Bytes) : Statement (.addrDec bytes) := by
  simp [Statement, encode, Machine.selectors]
theorem locoStat (bytes : Bytes) : Statement (.locoStat bytes) := by
  simp [Statement, encode, Machine.selectors]
theorem trnStat (bytes : Bytes) : Statement (.trnStat bytes) := by
  simp [Statement, encode, Machine.selectors]
theorem sysTelem (bytes : Bytes) : Statement (.sysTelem bytes) := by
  simp [Statement, encode, Machine.selectors]
theorem rfbDec (bytes : Bytes) : Statement (.rfbDec bytes) := by
  simp [Statement, encode, Machine.selectors]

end Sys2Proof.Laws.Selector
end

