-- ==== Sys2Proof/Tests/Slice0.lean ====
section
/-! SUPPORT. The model's own tests. Expected values are those of 95_test_vectors.md (S, E, X, F, B, A and P name its
rows) or are computed by hand from the rule named. `witness_` theorems show that the hypotheses of a statement are met. -/

namespace Sys2Proof.Tests

open Sys2Proof.Machine

/-- The response of an operation after reset, or nothing where it is refused. -/
def answer (i : Instr) : Option Response :=
  match exec i State.reset with
  | .next t => some t.response
  | .fault _ => none
  | .refused _ => none

/-- The refusal of an operation after reset, if it is refused. -/
def refusal (i : Instr) : Option Refusal :=
  match exec i State.reset with
  | .next _ => none
  | .fault _ => none
  | .refused r => some r

/-- The state of an outcome, if it has one. -/
def stateOf (o : Host.Outcome State Fault Refusal) : Option State :=
  match o with
  | .next t => some t
  | .fault _ => none
  | .refused _ => none

/-- The state after one step with a request presented. -/
def afterStep (r : Request) (s : State) : Option State := stateOf (step (s.present r))

/-- The response with bytes out. -/
def bytesOut (bs : Bytes) : Response := ⟨.ok, bs, .output⟩

/-- The response with a result and no bytes out. -/
def result (r : Result) : Response := ⟨.ok, [], r⟩

/-! ## WellFormed: a term each check refuses, and its neighbour inside -/

/-- The check of the length, as a fact about every length. -/
theorem wellFormed_envEnc (kind : U16) (payload : Bytes) :
    Instr.wellFormed (.envEnc kind payload) = decide (payload.length ≤ 65531) := rfl

/-- R61: 65531 bytes at most. -/
theorem test_wf_envEnc : Instr.wellFormed (.envEnc 1 (List.replicate 65532 0)) = false ∧
    Instr.wellFormed (.envEnc 1 (List.replicate 65531 0)) = true := by
  rw [wellFormed_envEnc, wellFormed_envEnc, List.length_replicate, List.length_replicate]
  exact ⟨by decide, by decide⟩

/-- R91: 1 to 9999. -/
theorem test_wf_addrEnc : [0, 1, 9999, 10000].map (fun a => Instr.wellFormed (.addrEnc a)) =
    [false, true, true, false] := by decide

/-- R95: three modes. -/
theorem test_wf_pct2mag : Instr.wellFormed (.pct2mag 3 50) = false ∧ Instr.wellFormed (.pct2mag 2 50) = true := by
  decide

/-- R96: three actions. -/
theorem test_wf_fnPack : Instr.wellFormed (.fnPack 3 0) = false ∧ Instr.wellFormed (.fnPack 2 0) = true := by decide

/-- R115: the address. -/
theorem test_wf_locoInfo : Instr.wellFormed (.locoInfo 0) = false ∧ Instr.wellFormed (.locoInfo 9999) = true := by
  decide

/-- R116: mode and address. -/
theorem test_wf_locoDrive : Instr.wellFormed (.locoDrive 3 3 0 0) = false ∧
    Instr.wellFormed (.locoDrive 0 10000 0 0) = false ∧ Instr.wellFormed (.locoDrive 0 3 0 0) = true := by decide

/-- R117: address and action; an index out of range is inside the contract. -/
theorem test_wf_locoFunc : Instr.wellFormed (.locoFunc 0 1 2) = false ∧ Instr.wellFormed (.locoFunc 3 3 2) = false ∧
    Instr.wellFormed (.locoFunc 3 1 32) = true := by decide

/-- The check of the length, as a fact about every length. -/
theorem wellFormed_cmdWrap (cid : Byte) (data : Bytes) :
    Instr.wellFormed (.cmdWrap cid data) = decide (data.length ≤ 65529) := rfl

/-- R120: 65529 bytes at most. -/
theorem test_wf_cmdWrap : Instr.wellFormed (.cmdWrap 1 (List.replicate 65530 0)) = false ∧
    Instr.wellFormed (.cmdWrap 1 (List.replicate 65529 0)) = true := by
  rw [wellFormed_cmdWrap, wellFormed_cmdWrap, List.length_replicate, List.length_replicate]
  exact ⟨by decide, by decide⟩

/-- R131: one status byte. -/
theorem test_wf_stepDec : Instr.wellFormed (.stepDec []) = false ∧ Instr.wellFormed (.stepDec [4, 4]) = false ∧
    Instr.wellFormed (.stepDec [4]) = true := by decide

/-! ## Decode: every row of R48, its selector and operand ports written out -/

/-- R48, the framers. -/
theorem test_decode_framers :
    decode { opsel := 0x01, kind := 0x0040, cid := 7, ibuf := [0x21, 0x81] } = .ok (.envEnc 0x0040 [0x21, 0x81]) ∧
    decode { opsel := 0x02, kind := 9, ibuf := [4, 0, 0, 0] } = .ok (.envDec [4, 0, 0, 0]) ∧
    decode { opsel := 0x03, ibuf := [4, 0] } = .ok (.envScan [4, 0]) ∧
    decode { opsel := 0x10, ibuf := [0x5A] } = .ok (.xorfold [0x5A]) ∧
    decode { opsel := 0x11, cid := 0x12, ibuf := [0x34] } = .ok (.subEnc 0x12 [0x34]) ∧
    decode { opsel := 0x12, cid := 0x12, ibuf := [0x7E, 0x7E] } = .ok (.subDec [0x7E, 0x7E]) := by decide

/-- R48, the field encoders. -/
theorem test_decode_fields :
    decode { opsel := 0x20, addr := 1234, taddr := 5 } = .ok (.addrEnc 1234) ∧
    decode { opsel := 0x21, addr := 1234, taddr := 5 } = .ok (.taddrEnc 5) ∧
    decode { opsel := 0x22, mag := 64, fwd := 1 } = .ok (.spdPack 64 1) ∧
    decode { opsel := 0x23, mode := 2, pct := 50, action := 1 } = .ok (.pct2mag 2 50) ∧
    decode { opsel := 0x24, mode := 2, action := 1, index := 2, output := 9 } = .ok (.fnPack 1 2) ∧
    decode { opsel := 0x25, output := 1, activate := 0, queue := 1 } = .ok (.trnPack 1 0 1) := by decide

/-- R48, the builders and the wrap. -/
theorem test_decode_builders :
    decode { opsel := 0x30, ibuf := [1] } = .ok .pwrOn ∧ decode { opsel := 0x31 } = .ok .pwrOff ∧
    decode { opsel := 0x32 } = .ok .verReq ∧ decode { opsel := 0x33 } = .ok .fwverReq ∧
    decode { opsel := 0x34, addr := 3 } = .ok (.locoInfo 3) ∧
    decode { opsel := 0x35, mode := 1, addr := 3, mag := 4, fwd := 1, pct := 5 } = .ok (.locoDrive 1 3 4 1) ∧
    decode { opsel := 0x36, addr := 3, action := 2, index := 10 } = .ok (.locoFunc 3 2 10) ∧
    decode { opsel := 0x37, addr := 3, taddr := 4 } = .ok (.trnInfo 4) ∧
    decode { opsel := 0x38, taddr := 4, output := 1, activate := 1, queue := 0 } = .ok (.trnSet 4 1 1 0) ∧
    decode { opsel := 0x3F, cid := 0x7E, ibuf := [9] } = .ok (.cmdWrap 0x7E [9]) := by decide

/-- R48, the extension. -/
theorem test_decode_extension :
    decode { opsel := 0x40, ibuf := [7] } = .ok (.ekind [7]) ∧ decode { opsel := 0x41, ibuf := [4] } = .ok (.stepDec [4]) ∧
    decode { opsel := 0x42, ibuf := [0xC4, 0xD2] } = .ok (.addrDec [0xC4, 0xD2]) ∧
    decode { opsel := 0x43, ibuf := [0, 3] } = .ok (.locoStat [0, 3]) ∧
    decode { opsel := 0x44, ibuf := [0, 5, 1] } = .ok (.trnStat [0, 5, 1]) ∧
    decode { opsel := 0x45, ibuf := [] } = .ok (.sysTelem []) ∧
    decode { opsel := 0x46, ibuf := [1] } = .ok (.rfbDec [1]) := by decide

/-- R51: the gaps of the map are rejected by name. -/
theorem test_decode_unknown : [0x00, 0x04, 0x0F, 0x13, 0x26, 0x39, 0x3E, 0x47, 0xFF].all (fun o =>
    decode { opsel := o } == .error (.unknownSelector o)) = true := by decide

/-- R48: the encoder writes the selector and the ports of the row. -/
theorem test_encode : encode (.locoDrive 2 1234 64 1) = { opsel := 0x35, mode := 2, addr := 1234, mag := 64, fwd := 1 } ∧
    encode (.trnPack 1 0 1) = { opsel := 0x25, output := 1, activate := 0, queue := 1 } ∧
    encode (.envEnc 0x0040 [0x21]) = { opsel := 0x01, kind := 0x0040, ibuf := [0x21] } := by decide

/-- The selectors of the map are all different, and are those of the operation map of R48. -/
theorem test_map_selectors : operationMap.map (·.opsel) = selectors ∧ selectors.Nodup ∧ selectors.length = 29 := by
  decide

/-- The rows of the opcode table as the host asks for them: the selector alone, every port zero. -/
theorem test_tableWord : decodeTableWord 8 0x22 = some (.spdPack 0 0) ∧ decodeTableWord 8 0x3F = some (.cmdWrap 0 []) ∧
    decodeTableWord 8 0x46 = some (.rfbDec []) ∧ decodeTableWord 8 0x04 = none := by decide

/-! ## The envelope framer -/

/-- E1, E2. -/
theorem test_envEnc : answer (.envEnc 0x1234 []) = some (bytesOut [0x04, 0x00, 0x34, 0x12]) ∧
    answer (.envEnc 0xFFFF [0xAB]) = some (bytesOut [0x05, 0x00, 0xFF, 0xFF, 0xAB]) := by decide

/-- E6: the length 260 is 0x04, 0x01. -/
theorem test_envEnc_length (payload : Bytes) (h : payload.length = 256) :
    answer (.envEnc 0x0001 payload) = some (bytesOut ([0x04, 0x01, 0x01, 0x00] ++ payload)) := by
  have hc : payloadCheck payload = none := (payloadCheck_eq_none payload).2 (by omega)
  simp only [answer, exec, execEnvEnc, guarded, hc, List.findSome?_cons, List.findSome?_nil, id,
    State.finish_response, State.frameEnvelope_obuf, State.start_obuf, State.start_ibuf, envelopeBytes, h]
  rfl

/-- E11, E13, E16, E17, E18. -/
theorem test_envDec :
    answer (.envDec [0x07, 0x00, 0x40, 0x00, 0x21, 0x81, 0xA0]) =
      some (result (.envelope ⟨0x0040, [0x21, 0x81, 0xA0]⟩ 7)) ∧
    answer (.envDec []) = some (.raised .framingError) ∧
    answer (.envDec [0x03, 0x00, 0x00, 0x00]) = some (.raised .framingError) ∧
    answer (.envDec [0x08, 0x00, 0x40, 0x00, 0x01, 0x02]) = some (.raised .framingError) ∧
    answer (.envDec [0x05, 0x00, 0xFF, 0xFF, 0xAB, 0x04, 0x00, 0x10, 0x00]) =
      some (result (.envelope ⟨0xFFFF, [0xAB]⟩ 5)) := by decide

/-- E20, E21, E23. -/
theorem test_envScan :
    answer (.envScan [0x04, 0x00, 0x10, 0x00, 0x05, 0x00, 0xFF, 0xFF, 0xAB]) =
      some (result (.envelopes [⟨0x0010, []⟩, ⟨0xFFFF, [0xAB]⟩])) ∧
    answer (.envScan [0x05, 0x00, 0x01, 0x00, 0x09, 0x00, 0x00, 0x00, 0x00, 0x01, 0x02]) =
      some ⟨.error .framingError, [], .envelopes [⟨0x0001, [0x09]⟩]⟩ ∧
    answer (.envScan [0x04, 0x00, 0x10, 0x00, 0xEE]) =
      some ⟨.error .framingError, [], .envelopes [⟨0x0010, []⟩]⟩ := by decide

/-! ## The checksum generator and the sub-frame framer -/

/-- X1, X3, X5. -/
theorem test_xorfold : answer (.xorfold []) = some (result (.byte 0x00)) ∧
    answer (.xorfold [0x21, 0x81]) = some (result (.byte 0xA0)) ∧
    answer (.xorfold [0x12, 0x34, 0x56, 0x70]) = some (result (.byte 0x00)) := by decide

/-- X7, X9, X12. -/
theorem test_subEnc : answer (.subEnc 0x00 []) = some (bytesOut [0x00, 0x00]) ∧
    answer (.subEnc 0x12 [0x34, 0x56]) = some (bytesOut [0x12, 0x34, 0x56, 0x70]) ∧
    answer (.subEnc 0xE4 [0x13, 0xC4, 0xD2, 0xC0]) = some (bytesOut [0xE4, 0x13, 0xC4, 0xD2, 0xC0, 0x21]) := by decide

/-- X13 to X18, X21. -/
theorem test_subDec :
    answer (.subDec [0x12, 0x34, 0x56, 0x70]) = some (result (.command ⟨0x12, [0x34, 0x56]⟩)) ∧
    answer (.subDec [0x7E, 0x7E]) = some (result (.command ⟨0x7E, []⟩)) ∧
    answer (.subDec []) = some (.raised .checksumError) ∧ answer (.subDec [0x21]) = some (.raised .checksumError) ∧
    answer (.subDec [0x21, 0x20]) = some (.raised .checksumMismatch) ∧
    answer (.subDec [0x21, 0x81, 0xA1]) = some (.raised .checksumMismatch) ∧
    answer (.subDec [0x81, 0x21, 0xA0]) = some (result (.command ⟨0x81, [0x21]⟩)) := by decide

/-- P5 step 6: one byte short. -/
theorem test_subDec_short : answer (.subDec [0x12, 0x34, 0x56]) = some (.raised .checksumMismatch) := by decide

/-! ## The field encoders -/

/-- S1, S2, F2, F3, F6. -/
theorem test_addrEnc : [1234, 3, 127, 128, 9999].map (fun a => answer (.addrEnc a)) =
    [[0xC4, 0xD2], [0x00, 0x03], [0x00, 0x7F], [0xC0, 0x80], [0xE7, 0x0F]].map (fun b => some (bytesOut b)) := by decide

/-- F7. -/
theorem test_addrEnc_refused : refusal (.addrEnc 0) = some (.locoAddressOutsideDomain 0) ∧
    refusal (.addrEnc 10000) = some (.locoAddressOutsideDomain 10000) := by decide

/-- F8, F9, F10: both readings of C4. -/
theorem test_taddrEnc (c : Cfg) : turnoutAddrPair c 0 = [0x00, 0x00] ∧
    (c.trnAddrMarker = false → turnoutAddrPair c 300 = [0x01, 0x2C] ∧ turnoutAddrPair c 16383 = [0x3F, 0xFF]) ∧
    (c.trnAddrMarker = true → turnoutAddrPair c 300 = [0xC1, 0x2C] ∧ turnoutAddrPair c 16383 = [0xFF, 0xFF]) := by
  refine ⟨by simp [turnoutAddrPair, addrPair], ?_, ?_⟩ <;> intro h <;> simp [turnoutAddrPair, addrPair, h, addrMarker, addrLongMin]

/-- F8 through the operation, whatever `Cfg` is. -/
theorem test_taddrEnc_exec : answer (.taddrEnc 5) = some (bytesOut [0x00, 0x05]) := by decide

/-- F11 to F15. -/
theorem test_spdPack : answer (.spdPack 0 0) = some (bytesOut [0x00]) ∧ answer (.spdPack 1 1) = some (bytesOut [0x81]) ∧
    answer (.spdPack 127 0) = some (bytesOut [0x7F]) ∧ answer (.spdPack 64 1) = some (bytesOut [0xC0]) := by decide

/-- S3 to S6, F16 to F19: the formula at the maximum 128. -/
theorem test_pct2mag : ([50, 100, -50, 0, 1, -1, 2, 25, 49, 51, 75, 99, 127, -128, -100] : List (BitVec 8)).map
      (fun p => (magnitudeOfPct 128 (clampedPct p), directionOfPct (clampedPct p))) =
    [(64, 1), (127, 1), (64, 0), (0, 1), (1, 1), (1, 0), (2, 1), (32, 1), (62, 1), (65, 1), (96, 1), (126, 1), (127, 1),
      (127, 0), (127, 0)] := by decide

/-- S3 through the operation: `Cfg.MAXMAG_128` is 128 (D16). -/
theorem test_pct2mag_exec : answer (.pct2mag 2 50) = some (result (.magnitude 64 1)) ∧
    refusal (.pct2mag 3 50) = some .illegalMode := by
  have h : Config.cfg.maxMag128 = 128 := Config.supplied.decided.maxMag128_eq
  refine ⟨?_, by decide⟩
  simp only [answer, exec, execPct2mag, withMode, stepModeOf, maxMagnitude]
  simp only [show (2 : BitVec 2) ≠ 0 by decide, show (2 : BitVec 2) ≠ 1 by decide, if_true, if_false, h]
  decide

/-- S7 to S9, F22 to F26. -/
theorem test_fnPack : answer (.fnPack 1 2) = some (bytesOut [0x42]) ∧ answer (.fnPack 0 5) = some (bytesOut [0x05]) ∧
    answer (.fnPack 2 10) = some (bytesOut [0x8A]) ∧ answer (.fnPack 2 31) = some (bytesOut [0x9F]) ∧
    answer (.fnPack 1 32) = some (.raised .rangeError) ∧ answer (.fnPack 0 255) = some (.raised .rangeError) ∧
    refusal (.fnPack 3 0) = some .illegalAction ∧ refusal (.fnPack 3 32) = some .illegalAction := by decide

/-- The general-knowledge instantiation (93 section 3) for tests alone; what it leaves open is filled with zeros, with
14 and 28 for the two maxima, and with the magnitude for `PCTDEC`. -/
def cfgGK : Cfg where
  kindCmdWrapper := 0x0040
  kindSerialQuery := 0x0010
  kindLogout := 0x0030
  kindDiscovery := 0
  kindSetBcastFlags := 0x0050
  kindSystelemChanged := 0x0084
  kindSystelemRequest := 0x0085
  cidPower := 0x21
  dataPowerOff := 0x80
  cidVersion := 0x21
  dataVersion := 0x21
  cidFwversion := 0xF1
  dataFwversion := 0x0A
  cidLocoInfo := 0xE3
  subidLocoInfo := 0xF0
  cidLocoDrive := 0xE4
  prefix14 := 0x10
  prefix28 := 0x12
  prefix128 := 0x13
  cidLocoFunc := 0xE4
  subidLocoFunc := 0xF8
  cidTrnInfo := 0x43
  cidTrnSet := 0x53
  cidLocoInfoBcast := 0xEF
  cidPowerBcast := 0x61
  trnFixed := 0x80
  trnQBit := 5
  trnABit := 3
  trnPBit := 0
  trnRsvBit := 4
  maxMag14 := 14
  maxMag28 := 28
  maxMag128 := 128
  pctdec := fun _ fwd mag => if fwd then mag.toNat else -mag.toNat
  trnAddrMarker := false
  bcastLocoInfo := 0
  bcastTrnInfo := 0
  bcastFeedbackSubscribed := 0
  bcastSystemState := 0
  bcastFeedbackAll := 0

/-- 93 section 3: "`CFG_GK` is well formed in the sense of rule R173". -/
theorem test_cfgGK_wellFormed : cfgGK.WellFormed ∧ cfgGK.Decided :=
  ⟨by constructor <;> decide, by constructor <;> decide⟩

/-- R173 refuses equal bit positions and a wrapper kind equal to another. -/
theorem test_cfg_illFormed : ¬({ cfgGK with trnQBit := 3 } : Cfg).WellFormed ∧
    ¬({ cfgGK with kindLogout := 0x0040 } : Cfg).WellFormed :=
  ⟨fun h => absurd h.positionsDiffer (by decide), fun h => absurd h.wrapperAlone (by decide)⟩

/-- F27 to F31. -/
theorem test_trnPack : turnoutByte cfgGK 0 0 0 = 0x80 ∧ turnoutByte cfgGK 1 1 0 = 0x89 ∧
    turnoutByte cfgGK 0 1 1 = 0xA8 ∧ turnoutByte cfgGK 1 1 1 = 0xA9 ∧
    answer (.trnPack 2 0 0) = some (.raised .rangeError) := by decide

/-! ## The builders -/

/-- B1, B2. -/
theorem test_power : answer .pwrOn = some ⟨.ok, [0x81], .command ⟨Config.cfg.cidPower, [0x81]⟩⟩ ∧
    answer .pwrOff =
      some ⟨.ok, [Config.cfg.dataPowerOff], .command ⟨Config.cfg.cidPower, [Config.cfg.dataPowerOff]⟩⟩ := ⟨rfl, rfl⟩

/-- B3, B4. -/
theorem test_versions : (answer .verReq).map (·.result) =
      some (.command ⟨Config.cfg.cidVersion, [Config.cfg.dataVersion]⟩) ∧
    (answer .fwverReq).map (·.result) = some (.command ⟨Config.cfg.cidFwversion, [Config.cfg.dataFwversion]⟩) :=
  ⟨rfl, rfl⟩

/-- B6, B7. -/
theorem test_locoInfo : (answer (.locoInfo 1234)).map (·.result) =
      some (.command ⟨Config.cfg.cidLocoInfo, [Config.cfg.subidLocoInfo, 0xC4, 0xD2]⟩) ∧
    (answer (.locoInfo 128)).map (·.result) =
      some (.command ⟨Config.cfg.cidLocoInfo, [Config.cfg.subidLocoInfo, 0xC0, 0x80]⟩) := ⟨rfl, rfl⟩

/-- B8, B10, and the refusals of R116. -/
theorem test_locoDrive : (answer (.locoDrive 2 1234 64 1)).map (·.result) =
      some (.command ⟨Config.cfg.cidLocoDrive, [Config.cfg.prefix128, 0xC4, 0xD2, 0xC0]⟩) ∧
    (answer (.locoDrive 0 9999 127 0)).map (·.result) =
      some (.command ⟨Config.cfg.cidLocoDrive, [Config.cfg.prefix14, 0xE7, 0x0F, 0x7F]⟩) ∧
    refusal (.locoDrive 3 3 0 0) = some .illegalMode ∧
    refusal (.locoDrive 0 0 0 0) = some (.locoAddressOutsideDomain 0) := ⟨rfl, rfl, rfl, rfl⟩

/-- B13, B16, B17, B18. -/
theorem test_locoFunc : (answer (.locoFunc 3 1 2)).map (·.result) =
      some (.command ⟨Config.cfg.cidLocoFunc, [Config.cfg.subidLocoFunc, 0x00, 0x03, 0x42]⟩) ∧
    (answer (.locoFunc 9999 2 31)).map (·.result) =
      some (.command ⟨Config.cfg.cidLocoFunc, [Config.cfg.subidLocoFunc, 0xE7, 0x0F, 0x9F]⟩) ∧
    answer (.locoFunc 3 1 32) = some (.raised .rangeError) ∧
    refusal (.locoFunc 0 1 32) = some (.locoAddressOutsideDomain 0) := ⟨rfl, rfl, rfl, rfl⟩

/-- B19. -/
theorem test_trnInfo : answer (.trnInfo 5) =
    some ⟨.ok, [0x00, 0x05], .command ⟨Config.cfg.cidTrnInfo, [0x00, 0x05]⟩⟩ := rfl

/-- B22 (its turnout byte under `CFG_GK` is 0x89), B25. -/
theorem test_trnSet : (answer (.trnSet 5 1 1 0)).map (·.result) =
      some (.command ⟨Config.cfg.cidTrnSet, [0x00, 0x05, turnoutByte Config.cfg 1 1 0]⟩) ∧
    answer (.trnSet 5 2 1 0) = some (.raised .rangeError) := ⟨rfl, rfl⟩

/-- B26, B27: the total length, the wrapper kind low byte first, the sub-frame. -/
theorem test_cmdWrap : answer (.cmdWrap 0x7E []) =
      some (bytesOut ([0x06, 0x00] ++ le16 Config.cfg.kindCmdWrapper ++ [0x7E, 0x7E])) ∧
    answer (.cmdWrap 0x12 [0x34, 0x56]) =
      some (bytesOut ([0x08, 0x00] ++ le16 Config.cfg.kindCmdWrapper ++ [0x12, 0x34, 0x56, 0x70])) := ⟨rfl, rfl⟩

/-- B8 as `SEND` under `CFG_GK`: its layout is the sub-frame inside the envelope of the wrapper kind. -/
theorem test_wrapped_bytes : envelopeBytes cfgGK.kindCmdWrapper (subFrameBytes cfgGK.cidLocoDrive
      (stepPrefix cfgGK .s128 :: locoAddrPair 1234 ++ [speedByte 64 1])) =
    [0x0A, 0x00, 0x40, 0x00, 0xE4, 0x13, 0xC4, 0xD2, 0xC0, 0x21] := by decide

/-! ## The extension -/

/-- A1 to A4 under `CFG_GK`. -/
theorem test_effectiveKind : effectiveKind cfgGK ⟨0x0084, []⟩ = some 0x0084 ∧
    effectiveKind cfgGK ⟨0x0040, [0x61, 0x01, 0xFF]⟩ = some 0x0061 ∧ effectiveKind cfgGK ⟨0x0040, []⟩ = none := by decide

/-- A5. -/
theorem test_ekind_short : answer (.ekind [0x07, 0x00, 0x40]) = some (.raised .framingError) := by decide

/-- A6, A7. -/
theorem test_stepDec : [0x00, 0x02, 0x04, 0x0C, 0xFA, 0x01, 0x03, 0x05, 0x06, 0x07].map
      (fun b => (answer (.stepDec [b])).map (·.result)) =
    [some .s14, some .s28, some .s128, some .s128, some .s28, none, none, none, none, none].map
      (fun m => some (Result.stepMode m)) := by decide

/-- A8 to A12. -/
theorem test_addrDec : answer (.addrDec [0xC4, 0xD2]) = some (result (.address 1234)) ∧
    answer (.addrDec [0x04, 0xD2]) = some (result (.address 1234)) ∧
    answer (.addrDec [0xFF, 0xFF]) = some (result (.address 16383)) ∧
    answer (.addrDec [0x00]) = some (.raised .lengthError) ∧
    answer (.addrDec [0x00, 0x03, 0x00]) = some (.raised .lengthError) := by decide

/-- The result of LOCO.STAT as a record, under a `Cfg`. -/
def locoRecord (bytes : Bytes) : Option LocoStatus := locoStatusOf cfgGK bytes

/-- S10, A14, A15: the optional fields. -/
theorem test_locoStat : locoRecord [0x00] = none ∧
    locoRecord [0x00, 0x03] = some ⟨3, none, none, none, none, none, none, none, none⟩ ∧
    locoRecord [0x00, 0x03, 0x09] = some ⟨3, some true, none, none, none, none, none, none, none⟩ ∧
    locoRecord [0x00, 0x03, 0x01, 0xC0] =
      some ⟨3, some false, none, some true, some 64, none, none, none, none⟩ := by decide

/-- A16, A17: the function table. -/
theorem test_locoStat_functions :
    ((locoRecord [0xC4, 0xD2, 0x0C, 0xC0, 0x13, 0x81, 0x00, 0x00, 0x05]).bind (·.functions)).map (fun f =>
      (f.length, (List.range 32).filter fun k => f[k]? == some (some true))) = some (32, [0, 1, 2, 5, 12, 29, 31]) ∧
    (locoRecord [0x00, 0x03, 0x04, 0x40, 0x70]).map (fun l =>
      (l.doubleTraction, l.smartSearch, l.functions.map fun f => (f.take 5, (f.drop 5).all (· == none)))) =
      some (some true, some true, some ([some true, some false, some false, some false, some false], true)) := by decide

/-- A18 to A22. -/
theorem test_trnStat : answer (.trnStat [0x00, 0x05, 0x01]) = some (result (.turnoutStatus ⟨5, .p0⟩)) ∧
    answer (.trnStat [0x00, 0x05, 0xFE]) = some (result (.turnoutStatus ⟨5, .p1⟩)) ∧
    answer (.trnStat [0x01, 0x2C, 0x00]) = some (result (.turnoutStatus ⟨300, .unknown⟩)) ∧
    answer (.trnStat [0x3F, 0xFF, 0x03]) = some (result (.turnoutStatus ⟨16383, .invalid⟩)) ∧
    answer (.trnStat [0x00, 0x05]) = some (.raised .lengthError) ∧
    answer (.trnStat [0, 5, 1, 0]) = some (.raised .lengthError) := by decide

/-- A23, A24 (its state mask 0x24). -/
theorem test_sysTelem :
    answer (.sysTelem [0x10, 0x00, 0xF0, 0xFF, 0x0E, 0x00, 0x19, 0x00, 0x98, 0x3A, 0x88, 0x13, 0x02, 0x00, 0x00, 0x01]) =
      some (result (.telemetry ⟨16, -16, 14, 25, 15000, 5000, 0x02, 0x00, 0x00, 0x01, true, false, false⟩)) ∧
    (telemetryOf [0, 0, 0, 0, 0, 0, 0, 0, 0, 0, 0, 0, 0x24, 0, 0, 0]).map
      (fun r => (r.trackOff, r.shortCircuit, r.programmingMode)) = some (false, true, true) := by decide

/-- A25. -/
theorem test_sysTelem_length : answer (.sysTelem (List.replicate 15 0)) = some (.raised .lengthError) ∧
    answer (.sysTelem (List.replicate 17 0)) = some (.raised .lengthError) := by decide

/-- A26, A27. -/
theorem test_rfbDec :
    answer (.rfbDec [0xD2, 0x04, 0x10, 0x27, 0x00, 0x00, 0x05, 0x00, 0x00, 0x05, 0x2A, 0x63, 0x00]) =
      some (result (.feedback ⟨1234, 10000, 5, 0x00, 0x05, 0x2A, 0x63, 0x00⟩)) ∧
    answer (.rfbDec (List.replicate 12 0)) = some (.raised .lengthError) := by decide

/-! ## Steps -/

/-- A request presented after reset runs (X3), and a table row of the host as the first operation (X1). -/
theorem test_step : (afterStep { opsel := 0x10, ibuf := [0x21, 0x81] } State.reset).map (·.response) =
      some (result (.byte 0xA0)) ∧
    (stateOf (step (State.reset.withFetchWord 8 0x10))).map (·.response) = some (result (.byte 0x00)) ∧
    afterStep { opsel := 0x39 } State.reset = none := by decide

/-- P4's shape with FN.PACK: after an error the next operation is clean. -/
theorem test_two_requests :
    (afterStep { opsel := 0x24, action := 1, index := 32 } State.reset).map (·.status.code) = some 4 ∧
    ((afterStep { opsel := 0x24, action := 1, index := 32 } State.reset).bind
      (afterStep { opsel := 0x24, action := 1, index := 2 })).map (fun t => (t.status.code, t.obuf)) =
      some (0, [0x42]) := by decide

/-- B11: the emergency stop is LOCO.DRIVE with magnitude 1. -/
theorem test_locoEstop : (stateOf (locoEstop 2 3 1 State.reset)).map (·.result) =
    some (.command ⟨Config.cfg.cidLocoDrive, [Config.cfg.prefix128, 0x00, 0x03, 0x81]⟩) := rfl

/-- S18: power on, sent. -/
theorem test_send : (stateOf (sendCommand .pwrOn State.reset)).map (·.obuf) =
    some ([0x07, 0x00] ++ le16 Config.cfg.kindCmdWrapper ++
      [Config.cfg.cidPower, 0x81, 0 ^^^ Config.cfg.cidPower ^^^ 0x81]) := rfl

/-- P5 step 2: SUB.CHECK of a valid and of a damaged sub-frame. -/
theorem test_subCheck : (subCheck [0x12, 0x34, 0x56, 0x70] State.reset).2 = true ∧
    (subCheck [0x12, 0x34, 0x56, 0x71] State.reset).2 = false ∧ (subCheck [0x00] State.reset).2 = false := by decide

/-! ## Witnesses: the hypotheses of each statement, met together -/

/-- The state with the host's next inputs given, the rest as after reset. -/
def waiting (inputs : List HostInput) : State := { State.reset with inputs := inputs }

/-- A request inside the contract. -/
def foldRequest : Request := { opsel := 0x10, ibuf := [0x5A] }

theorem witness_ResetPutsEveryElementAtItsStartValue :
    (waiting [.reset, .request foldRequest]).inputs = .reset :: [.request foldRequest] ∧
    ∃ u, exec (.subDec [0x21, 0x20]) (waiting [.reset, .request foldRequest]) = .next u := ⟨rfl, _, rfl⟩

theorem witness_ResetDuringAnOperationAbandonsIt :
    (waiting [.resetDuring foldRequest]).inputs = .resetDuring foldRequest :: [] ∧
    (waiting [.resetDuring { opsel := 0x39 }, .reset]).inputs = .resetDuring { opsel := 0x39 } :: [.reset] := ⟨rfl, rfl⟩

theorem witness_WithoutARequestTheBlockWaits : ({ State.reset with obuf := [0x42] } : State).inputs = [] := rfl

theorem witness_StatusCodesAreThoseOfTheTable :
    Status.code (.error .lengthError) = Status.code (.error .lengthError) := rfl

theorem witness_StepRunsTheDecodedOperation :
    (waiting [.request foldRequest, .reset]).inputs = .request foldRequest :: [.reset] ∧
    decode foldRequest = .ok (.xorfold [0x5A]) := ⟨rfl, rfl⟩

/-- Two requests that differ in a port their row does not name, and the operation both select. -/
theorem witness_DecodeAndEncodeAgree :
    ({ foldRequest with addr := 3 } : Request).read = foldRequest.read ∧ { foldRequest with addr := 3 } ≠ foldRequest ∧
    ({ foldRequest with addr := 3 } : Request).opsel = foldRequest.opsel ∧
    decode { foldRequest with addr := 3 } = .ok (.xorfold [0x5A]) := by decide

/-- Requests outside the contract, one for each clause at its boundary. -/
theorem witness_RefusedExactlyOutsideTheContract :
    (waiting [.request { opsel := 0x39 }]).inputs = .request { opsel := 0x39 } :: [] ∧
    [{ opsel := 0x39 }, { opsel := 0x23, mode := 3 }, { opsel := 0x36, action := 3, addr := 3 },
      { opsel := 0x20, addr := 0 }, { opsel := 0x35, addr := 10000 }].all (fun r : Request =>
        match step (waiting [.request r]) with
        | .next _ => false
        | .fault _ => false
        | .refused _ => true) = true ∧
    [{ opsel := 0x23, mode := 2 }, { opsel := 0x36, action := 2, addr := 3 }, { opsel := 0x20, addr := 1 },
      { opsel := 0x35, addr := 9999 }, { opsel := 0x22, mode := 3, action := 3 }].all (fun r : Request =>
        match step (waiting [.request r]) with
        | .next _ => true
        | .fault _ => false
        | .refused _ => false) = true := by decide

/-- The two lengths at each boundary, also for CMD.WRAP. -/
theorem witness_EnvEncFramesThePayload : (List.replicate 65531 (0x00 : Byte)).length ≤ 65531 ∧
    65531 < (List.replicate 65532 (0x00 : Byte)).length := by
  rw [List.length_replicate, List.length_replicate]; exact ⟨by decide, by decide⟩

theorem witness_CmdWrapFramesTheSubFrame : (List.replicate 65529 (0x00 : Byte)).length ≤ 65529 ∧
    65529 < (List.replicate 65530 (0x00 : Byte)).length := by
  rw [List.length_replicate, List.length_replicate]; exact ⟨by decide, by decide⟩

theorem witness_WrappedCommandsAreReadBack : ([0x34, 0x56] : Bytes).length ≤ 65529 := by decide

/-- No byte, three bytes; and headers that declare 3, 4, the buffer's 5 and one more than it. -/
theorem witness_EnvDecTakesTheFirstEnvelope :
    ([] : Bytes).length < 4 ∧ ([0x04, 0x00, 0x10] : Bytes).length < 4 ∧
    [3, 4, 5, 6].all (fun n : Nat =>
      let buffer : Bytes := BitVec.ofNat 8 n :: 0x00 :: 0x34 :: 0x12 :: [0xEE]
      (n == (BitVec.ofNat 8 n : Byte).toNat + 256 * (0x00 : Byte).toNat) &&
        (((answer (.envDec buffer)).map (·.status)) ==
          some (if n < 4 ∨ buffer.length < n then .error .framingError else .ok))) = true := by decide

theorem witness_EnvDecIgnoresTrailingBytes :
    ∃ t, exec (.envDec [0x05, 0x00, 0xFF, 0xFF, 0xAB]) State.reset = .next t ∧ t.status = .ok ∧
      t.result = .envelope ⟨0xFFFF, [0xAB]⟩ 5 := ⟨_, rfl, rfl, rfl⟩

/-- The three clauses: nothing, a failing decode, an envelope in front. -/
theorem witness_EnvScanDecodesEnvelopeByEnvelope :
    (∃ u, exec (.envDec [0x09, 0x00, 0x40]) State.reset = .next u ∧ u.status = .error .framingError) ∧
    (∃ u, exec (.envDec [0x04, 0x00, 0x10, 0x00, 0xEE]) State.reset = .next u ∧ u.status = .ok ∧
      u.result = .envelope ⟨0x0010, []⟩ 4) := ⟨⟨_, rfl, rfl⟩, _, rfl, rfl, rfl⟩

theorem witness_EnvelopeRoundTrips :
    ([0xAA, 0xBB] : Bytes).length ≤ 65531 ∧
    (∃ t, exec (.envDec [0x05, 0x00, 0xFF, 0xFF, 0xAB, 0x04]) State.reset = .next t ∧ t.status = .ok ∧
      t.result = .envelope ⟨0xFFFF, [0xAB]⟩ 5) ∧
    ∀ e ∈ [(⟨0x0010, []⟩ : Envelope), ⟨0xFFFF, [0xAB]⟩], e.payload.length ≤ 65531 :=
  ⟨by decide, ⟨_, rfl, rfl, rfl⟩, by decide⟩

/-- P3: its damaged tail. -/
theorem witness_ScanKeepsTheEnvelopesBeforeDamage :
    (∀ e ∈ [(⟨0x0040, [0x61, 0x01, 0x60]⟩ : Envelope)], e.payload.length ≤ 65531) ∧
    ([0x09, 0x00, 0x40] : Bytes) ≠ [] ∧
    ∃ u, exec (.envDec [0x09, 0x00, 0x40]) State.reset = .next u ∧ u.status = .error .framingError :=
  ⟨by decide, by decide, _, rfl, rfl⟩

theorem witness_XorfoldGivesTheParityOfEachBit : (0 : Nat) < 8 ∧ (7 : Nat) < 8 := by decide

theorem witness_SubDecChecksAndOpens : ([] : Bytes).length < 2 ∧ ([0x21] : Bytes).length < 2 := by decide

/-- X13 for (b) and (c), with its first and last byte; X20 beside its original for (d). -/
theorem witness_SubFrameLaws :
    2 ≤ ([] ++ (0x21 : Byte) :: [0x81, 0xA0]).length ∧ 2 ≤ ([0x21, 0x81] ++ (0xA0 : Byte) :: []).length ∧
    (∃ t, exec (.subDec ([] ++ 0x21 :: [0x81, 0xA0])) State.reset = .next t ∧ t.status = .ok) ∧
    (∃ t, exec (.subDec ([0x21, 0x81] ++ 0xA0 :: [])) State.reset = .next t ∧ t.status = .ok) ∧
    (∃ t, exec (.subDec [0x7E, 0x7E]) State.reset = .next t ∧ t.status = .ok) ∧
    ∀ k < 8, (([0x21, 0x81, 0xA0] : Bytes).filter fun x => x.getLsbD k).length % 2 =
      (([0x20, 0x80, 0xA0] : Bytes).filter fun x => x.getLsbD k).length % 2 :=
  ⟨by decide, by decide, ⟨_, rfl, rfl⟩, ⟨_, rfl, rfl⟩, ⟨_, rfl, rfl⟩, by decide⟩

/-- The locomotive addresses at the ends of the domain and beside them: ADDR.ENC, LOCO.INFO, ADDR.DEC. -/
theorem witness_AddrEncGivesTheMarkedPair :
    [1, 127, 128, 9999].all (fun a : BitVec 14 => decide (1 ≤ a.toNat ∧ a.toNat ≤ 9999)) = true ∧
    [0, 10000, 16383].all (fun a : BitVec 14 => decide (a.toNat = 0 ∨ 9999 < a.toNat)) = true := by decide

theorem witness_LocoInfoCarriesTheAddress :
    [1, 127, 128, 9999].all (fun a : BitVec 14 => decide (1 ≤ a.toNat ∧ a.toNat ≤ 9999)) = true ∧
    [0, 10000, 16383].all (fun a : BitVec 14 => decide (¬(1 ≤ a.toNat ∧ a.toNat ≤ 9999))) = true := by decide

theorem witness_LocoDriveCarriesAddressAndSpeed :
    [(0, 1), (1, 127), (2, 9999)].all (fun x : BitVec 2 × BitVec 14 =>
      decide (x.1 ≠ 3 ∧ 1 ≤ x.2.toNat ∧ x.2.toNat ≤ 9999)) = true ∧
    [(3, 1), (2, 0), (2, 10000)].all (fun x : BitVec 2 × BitVec 14 =>
      decide (x.1 = 3 ∨ ¬(1 ≤ x.2.toNat ∧ x.2.toNat ≤ 9999))) = true := by decide

theorem witness_LocoFuncCarriesAddressAndFunction :
    [(0, 1, 0), (2, 9999, 31)].all (fun x : BitVec 2 × BitVec 14 × Byte =>
      decide (x.1 ≠ 3 ∧ (1 ≤ x.2.1.toNat ∧ x.2.1.toNat ≤ 9999) ∧ x.2.2.toNat ≤ 31)) = true ∧
    [(0, 1, 32), (2, 9999, 255)].all (fun x : BitVec 2 × BitVec 14 × Byte =>
      decide (x.1 ≠ 3 ∧ (1 ≤ x.2.1.toNat ∧ x.2.1.toNat ≤ 9999) ∧ 31 < x.2.2.toNat)) = true ∧
    [(3, 1), (2, 0), (2, 10000)].all (fun x : BitVec 2 × BitVec 14 =>
      decide (x.1 = 3 ∨ ¬(1 ≤ x.2.toNat ∧ x.2.toNat ≤ 9999))) = true := by decide

theorem witness_Pct2magConvertsByTheFormula :
    (∃ mode : BitVec 2, mode = 3) ∧ ∀ mode ∈ [(0 : BitVec 2), 1, 2], mode ≠ 3 ∧
      ∀ pct ∈ [(-128 : BitVec 8), -100, 0, 127], ∃ (p : Int) (m : Nat), p = max (-100) (min 100 pct.toInt) ∧
        m = (if mode = 0 then Config.cfg.maxMag14 else if mode = 1 then Config.cfg.maxMag28
          else Config.cfg.maxMag128) :=
  ⟨⟨3, rfl⟩, fun mode h => ⟨by revert mode; decide, fun _ _ => ⟨_, _, rfl, rfl⟩⟩⟩

theorem witness_DocumentedPercentagesAt128Steps :
    ((-50, 64, 0, 0x40) : BitVec 8 × BitVec 7 × BitVec 1 × Byte) ∈
      [(50, 64, 1, 0xC0), (100, 127, 1, 0xFF), (-50, 64, 0, 0x40), (0, 0, 1, 0x80)] := by decide

theorem witness_FnPackPutsActionAboveIndex : (3 : BitVec 2) = 3 ∧ (0 : BitVec 2) ≠ 3 ∧ (2 : BitVec 2) ≠ 3 ∧
    (31 : Byte).toNat ≤ 31 ∧ ¬(32 : Byte).toNat ≤ 31 := by decide

/-- The two sides of the output's range, and bit 7, which is no operand's position. -/
theorem witness_TrnPackPlacesEachOperand : (1 : Byte).toNat ≤ 1 ∧ 1 < (2 : Byte).toNat ∧ (7 : Nat) < 8 ∧
    7 ≠ Config.cfg.trnQBit.val ∧ 7 ≠ Config.cfg.trnABit.val ∧ 7 ≠ Config.cfg.trnPBit.val := by
  obtain ⟨hq, ha, hp, -⟩ := Config.supplied.wellFormed.positionsBelow7
  refine ⟨by decide, by decide, by decide, ?_, ?_, ?_⟩
  · intro h; exact absurd (Fin.lt_def.1 hq) (by rw [show Config.supplied.cfg = Config.cfg from rfl, ← h]; decide)
  · intro h; exact absurd (Fin.lt_def.1 ha) (by rw [show Config.supplied.cfg = Config.cfg from rfl, ← h]; decide)
  · intro h; exact absurd (Fin.lt_def.1 hp) (by rw [show Config.supplied.cfg = Config.cfg from rfl, ← h]; decide)

theorem witness_TrnSetCarriesAddressAndControl : (0 : Byte).toNat ≤ 1 ∧ (1 : Byte).toNat ≤ 1 ∧ 1 < (2 : Byte).toNat ∧
    1 < (255 : Byte).toNat := by decide

/-- SEND: a refused, a raising and an answering builder; LOCO.DRIVE.PCT: both cases. -/
theorem witness_PseudoOperationsExpand :
    (∃ f, exec (BuilderCall.locoInfo 0).instr State.reset = .refused f) ∧
    (∃ t, exec (BuilderCall.locoFunc 3 1 32).instr State.reset = .next t ∧ t.status = .error .rangeError) ∧
    (∃ t, exec BuilderCall.pwrOn.instr State.reset = .next t ∧ t.status = .ok) ∧
    (∃ f, exec (.pct2mag 3 50) State.reset = .refused f) ∧
    (∃ t mag fwd, exec (.pct2mag 0 50) State.reset = .next t ∧ t.result = .magnitude mag fwd) :=
  ⟨⟨_, rfl⟩, ⟨_, rfl, rfl⟩, ⟨_, rfl, rfl⟩, ⟨_, rfl⟩, _, _, _, rfl, rfl⟩

/-- Both clauses: three bytes; and headers declaring 3, 4, the buffer's 5 and 6, of the wrapper kind and of another. -/
theorem witness_EkindUnwrapsTheWrapperKind :
    ([0x07, 0x00, 0x40] : Bytes).length < 4 ∧
    ∀ kind ∈ [Config.cfg.kindCmdWrapper, Config.cfg.kindCmdWrapper + 1], ∀ n ∈ [3, 4, 5, 6],
      ∃ (b0 b1 k0 k1 : Byte) (rest buffer : Bytes), buffer = b0 :: b1 :: k0 :: k1 :: rest ∧
        n = b0.toNat + 256 * b1.toNat ∧ kind.toNat = k0.toNat + 256 * k1.toNat ∧ rest = [0x61] := by
  refine ⟨by decide, fun kind _ n hn => ⟨BitVec.ofNat 8 n, 0, kind.extractLsb' 0 8, kind.extractLsb' 8 8, [0x61], _, rfl,
    by revert n; decide, ?_, rfl⟩⟩
  rw [← u16le_toNat, u16le_le16]

theorem witness_AddrDecDropsTheMarker : ([0x00] : Bytes).length ≠ 2 ∧ ([0x00, 0x03, 0x00] : Bytes).length ≠ 2 ∧
    1 ≤ (9999 : BitVec 14).toNat ∧ (9999 : BitVec 14).toNat ≤ 9999 := by decide

/-- The lengths where a field appears: 1, 2, 3, 4 and 9 bytes. -/
theorem witness_LocoStatReadsEveryPresentField :
    ([0x00] : Bytes).length < 2 ∧ ([] : Bytes) = [] ∧ ([0x04] : Bytes).length < 2 ∧ ([0x04, 0xC0] : Bytes).length < 3 ∧
    ([0x0C, 0xC0, 0x13, 0x81, 0x00, 0x00, 0x05] : Bytes)[0]? = some 0x0C ∧
    ([0x0C, 0xC0, 0x13, 0x81, 0x00, 0x00, 0x05] : Bytes)[1]? = some 0xC0 ∧
    ([0x0C, 0xC0, 0x13, 0x81, 0x00, 0x00, 0x05] : Bytes)[2]? = some 0x13 ∧
    (3 : Nat) < 4 ∧ (7 : Nat) < 8 ∧ (2 : Nat) < 3 ∧
    (locoRecord [0x00, 0x03, 0x04, 0xC0]).bind (·.stepMode) = some .s128 ∧ (0xC0 : Byte).getLsbD 7 = true ∧
    (64 : BitVec 7) ≠ 0 := by decide

theorem witness_TrnStatReadsAddressAndPosition :
    ([0x00, 0x05] : Bytes).length ≠ 3 ∧ ([0x00, 0x05, 0x01, 0x00] : Bytes).length ≠ 3 := by decide

theorem witness_SysTelemReadsTheRecord :
    (List.replicate 15 (0x00 : Byte)).length ≠ 16 ∧ (List.replicate 17 (0x00 : Byte)).length ≠ 16 := by decide

theorem witness_RfbDecReadsTheRecord :
    (List.replicate 12 (0x00 : Byte)).length ≠ 13 ∧ (List.replicate 14 (0x00 : Byte)).length ≠ 13 := by decide

theorem witness_NoResponseDependsOnEarlierOperations :
    (∃ t, exec (.fnPack 1 32) State.reset = .next t) ∧ ∃ f, exec (.fnPack 3 32) State.reset = .refused f :=
  ⟨⟨_, rfl⟩, _, rfl⟩

theorem witness_ErrorsAreRaisedExactlyByTheTable :
    ∃ t, exec (.trnStat [0x00, 0x05]) State.reset = .next t ∧ t.status = .error .lengthError := ⟨_, rfl, rfl⟩

theorem witness_AnErrorLeavesNothingBehind :
    (∃ t, exec (.locoFunc 3 1 32) State.reset = .next t ∧ t.status = .error .rangeError) ∧
    (∀ buffer, Instr.locoFunc 3 1 32 ≠ .envScan buffer) ∧ ∃ u, exec (.fnPack 1 2) State.reset = .next u :=
  ⟨⟨_, rfl, rfl⟩, (by simp), _, rfl⟩

theorem witness_OperationsLeaveTheHostsInputsAlone :
    ∃ t, exec (.spdPack 64 1) (waiting [.reset]) = .next t := ⟨_, rfl⟩

/-- One operation of each kind, after bytes of another were out. -/
theorem witness_OutputHoldsOnlyWhatTheOperationWrites :
    (∃ t, exec (.subDec [0x7E, 0x7E]) { State.reset with obuf := [0x42] } = .next t) ∧
    (∃ t, exec (.trnSet 5 2 1 0) { State.reset with obuf := [0x42] } = .next t) ∧
    ∃ t, exec (.spdPack 64 1) { State.reset with obuf := [0x42] } = .next t := ⟨⟨_, rfl⟩, ⟨_, rfl⟩, _, rfl⟩

theorem witness_EveryStepKeepsTheResponseShape :
    (waiting [.request foldRequest]).Shaped ∧ ∃ t, step (waiting [.request foldRequest]) = .next t := ⟨rfl, _, rfl⟩

end Sys2Proof.Tests
end

section
/-! O44: no response depends on what came before. Every operation begins with `State.start`, which leaves of the state
before it only `STATUS`, the host's inputs and the number of the next free value; none of these reaches a response. -/

namespace Sys2Proof.Machine

/-! ## What the host sees of an outcome -/

/-- An outcome with the next state cut down to its response (30_encoding.md R50). -/
def answer : Host.Outcome State Fault Refusal → Host.Outcome Response Fault Refusal
  | .next t => .next t.response
  | .fault f => .fault f
  | .refused r => .refused r

@[simp] theorem answer_next (t : State) : answer (.next t) = .next t.response := rfl
@[simp] theorem answer_refused (f : Refusal) : answer (.refused f) = .refused f := rfl

theorem answer_eq_next {o : Host.Outcome State Fault Refusal} {r : Response} :
    answer o = .next r ↔ ∃ t, o = .next t ∧ t.response = r := by
  cases o <;> simp [answer]

theorem answer_eq_refused {o : Host.Outcome State Fault Refusal} {f : Refusal} :
    answer o = .refused f ↔ o = .refused f := by
  cases o <;> simp [answer]

/-! ## The shared operations answer alike -/

/-- The checks read no state, so they refuse alike. -/
theorem answer_guarded_congr (checks : List (Option Refusal)) {t t' : State} (h : t.response = t'.response) :
    answer (guarded checks t) = answer (guarded checks t') := by
  unfold guarded
  split <;> simp [h]

theorem answer_withMode_congr (mode : BitVec 2) {run run' : StepMode → Host.Outcome State Fault Refusal}
    (h : ∀ m, answer (run m) = answer (run' m)) : answer (withMode mode run) = answer (withMode mode run') := by
  unfold withMode
  split
  · exact h _
  · rfl

variable (s s' : State)

theorem start_outputIf_response_congr (input : Bytes) (st : Status) (bs : Bytes) :
    ((s.start input).outputIf st bs).response = ((s'.start input).outputIf st bs).response := by
  simp only [State.outputIf_response, State.start_obuf]

theorem start_commandIf_response_congr (input : Bytes) (st : Status) (c : Command) :
    ((s.start input).commandIf st c).response = ((s'.start input).commandIf st c).response := by
  simp only [State.commandIf_response, State.start_obuf]

theorem start_record_response_congr (input : Bytes) (r : Option Result) :
    ((s.start input).record r).response = ((s'.start input).record r).response := by
  simp only [State.record_response, State.start_obuf]

/-- The scan reads `IBUF` and `POS` alone (40_envelope.md R64). -/
theorem scanLoop_congr (fuel : Nat) (out : List Envelope) (hi : s.ibuf = s'.ibuf) (hp : s.pos = s'.pos) :
    (scanLoop fuel out s).1 = (scanLoop fuel out s').1 ∧ (scanLoop fuel out s).2.1 = (scanLoop fuel out s').2.1 := by
  induction fuel generalizing out s s' with
  | zero => exact ⟨rfl, rfl⟩
  | succ fuel ih =>
    unfold scanLoop
    rw [hi, hp]
    split
    · split
      · exact ih _ _ _ hi (by simp [hp])
      · exact ⟨rfl, rfl⟩
    · exact ⟨rfl, rfl⟩

/-! ## The operations with branches of their own answer alike -/

theorem answer_execEnvDec_congr (buffer : Bytes) : answer (execEnvDec buffer s) = answer (execEnvDec buffer s') := by
  simp only [execEnvDec, State.start_ibuf]
  split <;> simp

theorem answer_execEnvScan (buffer : Bytes) :
    answer (execEnvScan buffer s) =
      .next ⟨(scanLoop buffer.length [] (s.start buffer)).2.1, [],
        .envelopes (scanLoop buffer.length [] (s.start buffer)).1⟩ := by
  obtain ⟨-, -, hobuf⟩ := scanLoop_keeps buffer.length [] (s.start buffer)
  simp [execEnvScan, hobuf]

theorem answer_execEnvScan_congr (buffer : Bytes) :
    answer (execEnvScan buffer s) = answer (execEnvScan buffer s') := by
  obtain ⟨hout, hst⟩ := scanLoop_congr (s.start buffer) (s'.start buffer) buffer.length [] rfl rfl
  rw [answer_execEnvScan, answer_execEnvScan, hout, hst]

/-- `ACC` starts at 0, so the checksum compared is that of the operand alone (41_subframe_checksum.md R78). -/
theorem answer_execSubDec_congr (bytes : Bytes) : answer (execSubDec bytes s) = answer (execSubDec bytes s') := by
  match bytes with
  | [] | [_] => simp [execSubDec]
  | cid :: b :: rest =>
    simp only [execSubDec, State.foldBytes_acc, State.start_acc]
    split <;> simp

theorem answer_execEkind_congr (buffer : Bytes) : answer (execEkind buffer s) = answer (execEkind buffer s') := by
  simp only [execEkind, State.start_ibuf]
  split <;> simp

theorem answer_execStepDec_congr (bytes : Bytes) : answer (execStepDec bytes s) = answer (execStepDec bytes s') := by
  unfold execStepDec
  split <;> simp

theorem answer_execAddrDec_congr (bytes : Bytes) : answer (execAddrDec bytes s) = answer (execAddrDec bytes s') := by
  unfold execAddrDec
  split <;> simp only [answer_next, start_record_response_congr s s']

/-! ## Every operation answers alike -/

/-- What the host sees of an operation is the same from any two states (10_state.md R15). -/
theorem answer_exec_congr (i : Instr) : answer (exec i s) = answer (exec i s') := by
  cases i with
  | envEnc kind payload => exact answer_guarded_congr _ (by simp [State.frameEnvelope_obuf])
  | envDec buffer => exact answer_execEnvDec_congr s s' buffer
  | envScan buffer => exact answer_execEnvScan_congr s s' buffer
  | xorfold bytes => simp [exec, execXorfold]
  | subEnc cid data => simp [exec, execSubEnc, State.frameCommand_obuf]
  | subDec bytes => exact answer_execSubDec_congr s s' bytes
  | addrEnc addr => exact answer_guarded_congr _ (by simp)
  | taddrEnc taddr => simp [exec, execTaddrEnc]
  | spdPack mag fwd => simp [exec, execSpdPack]
  | pct2mag mode pct => exact answer_withMode_congr mode fun m => by simp
  | fnPack action index => exact answer_guarded_congr _ (start_outputIf_response_congr s s' ..)
  | trnPack output activate queue => exact congrArg Host.Outcome.next (start_outputIf_response_congr s s' ..)
  | pwrOn | pwrOff | verReq | fwverReq | trnInfo | trnSet =>
    exact congrArg Host.Outcome.next (start_commandIf_response_congr s s' ..)
  | locoInfo | locoFunc => exact answer_guarded_congr _ (start_commandIf_response_congr s s' ..)
  | locoDrive mode addr mag fwd =>
    exact answer_withMode_congr mode fun m => answer_guarded_congr _ (start_commandIf_response_congr s s' ..)
  | cmdWrap cid data =>
    exact answer_guarded_congr _ (by simp [State.frameEnvelope_obuf, State.frameCommand_obuf])
  | ekind buffer => exact answer_execEkind_congr s s' buffer
  | stepDec bytes => exact answer_execStepDec_congr s s' bytes
  | addrDec bytes => exact answer_execAddrDec_congr s s' bytes
  | locoStat | trnStat | sysTelem | rfbDec =>
    exact congrArg Host.Outcome.next (start_record_response_congr s s' ..)

end Sys2Proof.Machine

open Sys2Proof Sys2Proof.Machine

/-- Settles O44: what the host sees of an operation, its response or the name of its refusal, is the same from both
states. -/
theorem noResponseDependsOnEarlierOperations : Obligations.NoResponseDependsOnEarlierOperations := by
  intro i s s'
  have hsame : answer (exec i s') = answer (exec i s) := answer_exec_congr s' s i
  constructor
  · intro t ht
    exact answer_eq_next.1 (hsame.trans (congrArg answer ht))
  · intro f hf
    exact answer_eq_refused.1 (hsame.trans (congrArg answer hf))

end

section
/-! O10 to O13: the envelope framer (40_envelope.md R60 to R65). ENV.DEC is `envDecode` of the buffer, and ENV.SCAN is
`scanBuffer`, the scan of a buffer without cursor, fuel or state. -/

namespace Sys2Proof.Machine

/-! ## ENV.ENC -/

/-- `le16` written with quotient and remainder, the low byte first (00_scope.md R8). -/
theorem le16_eq_mod_div (v : U16) : le16 v = [BitVec.ofNat 8 (v.toNat % 256), BitVec.ofNat 8 (v.toNat / 256)] := by
  have hlow : v.extractLsb' 0 8 = BitVec.ofNat 8 (v.toNat % 256) := by
    apply BitVec.eq_of_toNat_eq; simp
  have hhigh : v.extractLsb' 8 8 = BitVec.ofNat 8 (v.toNat / 256) := by
    apply BitVec.eq_of_toNat_eq; simp [Nat.shiftRight_eq_div_pow]
  rw [le16, hlow, hhigh]

/-- The envelope of a payload within `MAX_PAYLOAD`, byte by byte (40_envelope.md R60). -/
theorem envelopeBytes_eq_mod_div (kind : U16) {payload : Bytes} (h : payload.length ≤ 65531) :
    envelopeBytes kind payload =
      [BitVec.ofNat 8 ((payload.length + 4) % 256), BitVec.ofNat 8 ((payload.length + 4) / 256),
        BitVec.ofNat 8 (kind.toNat % 256), BitVec.ofNat 8 (kind.toNat / 256)] ++ payload := by
  have hlen : (BitVec.ofNat 16 (payload.length + 4)).toNat = payload.length + 4 := by
    rw [BitVec.toNat_ofNat]; omega
  simp [envelopeBytes, le16_eq_mod_div, hlen]

theorem exec_envEnc_of_le (kind : U16) {payload : Bytes} (s : State) (h : payload.length ≤ 65531) :
    exec (.envEnc kind payload) s = .next (((s.start payload).frameEnvelope kind).finish .output) :=
  guarded_of_none (by simpa using h) _

theorem exec_envEnc_of_lt (kind : U16) {payload : Bytes} (s : State) (h : 65531 < payload.length) :
    exec (.envEnc kind payload) s = .refused (.payloadTooLong payload.length) := by
  have hcheck : payloadCheck payload = some (.payloadTooLong payload.length) := if_pos h
  simp [exec, execEnvEnc, guarded, hcheck]

/-! ## ENV.DEC -/

theorem envDecode_eq_none_of_short {buffer : Bytes} (h : buffer.length < 4) : envDecode buffer = none := by
  refine Option.eq_none_iff_forall_ne_some.2 fun (e, n) hd => ?_
  obtain ⟨h4, hn, -⟩ := envDecode_bounds hd
  omega

/-- With a header in the buffer, the declared length alone decides (40_envelope.md R62). -/
theorem envDecode_header (b0 b1 k0 k1 : Byte) (rest : Bytes) {n : Nat} (hn : n = b0.toNat + 256 * b1.toNat) :
    envDecode (b0 :: b1 :: k0 :: k1 :: rest) =
      if n < 4 ∨ (b0 :: b1 :: k0 :: k1 :: rest).length < n then none
      else some (⟨u16le k0 k1, slice (b0 :: b1 :: k0 :: k1 :: rest) 4 n⟩, n) := by
  rw [← u16le_toNat] at hn
  split
  · next hbad =>
    refine Option.eq_none_iff_forall_ne_some.2 fun (e, m) hd => ?_
    obtain ⟨_, _, _, _, _, hb, hm, h4, hl, -⟩ := envDecode_eq_some.1 hd
    cases hb
    omega
  · next hgood =>
    exact envDecode_eq_some.2 ⟨b0, b1, k0, k1, rest, rfl, hn, by omega, by omega, rfl⟩

/-- Bytes beyond the declared length do not change what is decoded (40_envelope.md R63). -/
theorem envDecode_append {buffer : Bytes} {e : Envelope} {n : Nat} (extra : Bytes)
    (h : envDecode buffer = some (e, n)) : envDecode (buffer ++ extra) = some (e, n) := by
  obtain ⟨b0, b1, k0, k1, rest, hb, hn, h4, hl, rfl⟩ := envDecode_eq_some.1 h
  have hslice : slice (buffer ++ extra) 4 n = slice buffer 4 n := by
    rw [slice, List.take_append_of_le_length hl, slice]
  have hlen : n ≤ (buffer ++ extra).length := by rw [List.length_append]; omega
  exact envDecode_eq_some.2 ⟨b0, b1, k0, k1, rest ++ extra, by rw [hb]; rfl, hn, h4, hlen, by rw [hslice]⟩

theorem exec_envDec_of_some {buffer : Bytes} {e : Envelope} {n : Nat} (s : State)
    (h : envDecode buffer = some (e, n)) :
    exec (.envDec buffer) s = .next (((s.start buffer).setLen n).finish (.envelope e n)) := by
  simp [exec, execEnvDec, h]

theorem exec_envDec_of_none {buffer : Bytes} (s : State) (h : envDecode buffer = none) :
    exec (.envDec buffer) s = .next ((s.start buffer).raise .framingError) := by
  simp [exec, execEnvDec, h]

/-- An envelope that ENV.DEC answers is the one `envDecode` finds. -/
theorem envDecode_eq_some_of_exec {buffer : Bytes} {s t : State} {e : Envelope} {n : Nat}
    (ht : exec (.envDec buffer) s = .next t) (hr : t.result = .envelope e n) : envDecode buffer = some (e, n) := by
  cases hd : envDecode buffer with
  | none =>
    cases (exec_envDec_of_none s hd).symm.trans ht
    cases hr
  | some d =>
    cases (exec_envDec_of_some s hd).symm.trans ht
    cases hr
    rfl

/-- ENV.DEC raises only where `envDecode` finds no envelope. -/
theorem envDecode_eq_none_of_exec {buffer : Bytes} {s t : State} {err : ErrorKind}
    (ht : exec (.envDec buffer) s = .next t) (hst : t.status = .error err) : envDecode buffer = none := by
  cases hd : envDecode buffer with
  | none => rfl
  | some d =>
    cases (exec_envDec_of_some s hd).symm.trans ht
    cases hst

/-! ## ENV.SCAN -/

/-- The scan of a buffer as 40_envelope.md R64 and R65 describe it: the envelopes in order and the final status.
`scanLoop_eq_scanBuffer` ties it to the model's loop. -/
def scanBuffer (buffer : Bytes) : List Envelope × Status :=
  match buffer with
  | [] => ([], .ok)
  | b :: bs =>
    match _hd : envDecode (b :: bs) with
    | none => ([], .error .framingError)
    | some (e, n) => (e :: (scanBuffer ((b :: bs).drop n)).1, (scanBuffer ((b :: bs).drop n)).2)
termination_by buffer.length
decreasing_by
  all_goals
    obtain ⟨h4, -⟩ := envDecode_bounds ‹_›
    rw [List.length_drop, List.length_cons]
    omega

@[simp] theorem scanBuffer_nil : scanBuffer [] = ([], .ok) := by rw [scanBuffer]

theorem scanBuffer_of_none {buffer : Bytes} (hne : buffer ≠ []) (h : envDecode buffer = none) :
    scanBuffer buffer = ([], .error .framingError) := by
  cases buffer with
  | nil => exact absurd rfl hne
  | cons b bs =>
    rw [scanBuffer]
    split
    · rfl
    · next hd => cases h.symm.trans hd

theorem scanBuffer_of_some {buffer : Bytes} {e : Envelope} {n : Nat} (h : envDecode buffer = some (e, n)) :
    scanBuffer buffer = (e :: (scanBuffer (buffer.drop n)).1, (scanBuffer (buffer.drop n)).2) := by
  cases buffer with
  | nil => cases (envDecode_eq_none_of_short (buffer := []) (by decide)).symm.trans h
  | cons b bs =>
    rw [scanBuffer]
    split
    · next hd => cases h.symm.trans hd
    · next hd => cases h.symm.trans hd; rfl

/-- With fuel for the bytes left, the model's loop appends what the scan of these bytes gives to what it has, and ends
with that scan's status. -/
theorem scanLoop_eq_scanBuffer (fuel : Nat) (out : List Envelope) (s : State)
    (hfuel : (s.ibuf.drop s.pos).length ≤ fuel) :
    (scanLoop fuel out s).1 = out ++ (scanBuffer (s.ibuf.drop s.pos)).1 ∧
      (scanLoop fuel out s).2.1 = (scanBuffer (s.ibuf.drop s.pos)).2 := by
  induction fuel generalizing out s with
  | zero =>
    rw [List.eq_nil_of_length_eq_zero (Nat.le_zero.1 hfuel)]
    simp [scanLoop]
  | succ fuel ih =>
    unfold scanLoop
    split
    · next hmore =>
      split
      · next e n hd =>
        have hrest : (s.advance n).ibuf.drop (s.advance n).pos = (s.ibuf.drop s.pos).drop n := by simp
        obtain ⟨h4, -⟩ := envDecode_bounds hd
        obtain ⟨hout, hst⟩ := ih (out ++ [e]) (s.advance n) (by rw [hrest, List.length_drop]; omega)
        rw [hout, hst, hrest, scanBuffer_of_some hd]
        simp
      · next hd =>
        have hne : s.ibuf.drop s.pos ≠ [] := by simpa using hmore
        simp [scanBuffer_of_none hne hd]
    · next hdone =>
      rw [List.drop_eq_nil_of_le (Nat.le_of_not_lt hdone)]
      simp

/-- ENV.SCAN answers on every buffer, with the scan of it. -/
theorem exec_envScan (buffer : Bytes) (s : State) :
    ∃ t, exec (.envScan buffer) s = .next t ∧ t.inputs = s.inputs ∧ t.status = (scanBuffer buffer).2 ∧
      t.result = .envelopes (scanBuffer buffer).1 := by
  obtain ⟨hout, hst⟩ := scanLoop_eq_scanBuffer buffer.length [] (s.start buffer) le_rfl
  obtain ⟨hinputs, -⟩ := scanLoop_keeps buffer.length [] (s.start buffer)
  exact ⟨_, rfl, hinputs, hst, congrArg Result.envelopes hout⟩

end Sys2Proof.Machine

open Sys2Proof Sys2Proof.Machine

/-- Settles O12: the header and the declared bytes stand in the longer buffer too. -/
theorem envDecIgnoresTrailingBytes : Obligations.EnvDecIgnoresTrailingBytes := by
  intro buffer extra s t e n ht _ hr
  have hd : envDecode buffer = some (e, n) := envDecode_eq_some_of_exec ht hr
  exact ⟨_, exec_envDec_of_some s (envDecode_append extra hd), rfl, rfl⟩

/-- Settles O13: ENV.SCAN is `scanBuffer`, whose three equations are the three clauses. -/
theorem envScanDecodesEnvelopeByEnvelope : Obligations.EnvScanDecodesEnvelopeByEnvelope := by
  intro buffer s
  obtain ⟨t, ht, hinputs, hst, hr⟩ := exec_envScan buffer s
  refine ⟨t, _, _, ht, hinputs, hst, hr, ?exhausted, ?damaged, ?envelope⟩
  case exhausted =>
    rintro rfl
    simp
  case damaged =>
    rintro hne ⟨u, hu, hust⟩
    simp [scanBuffer_of_none hne (envDecode_eq_none_of_exec hu hust)]
  case envelope =>
    intro u e n hu _ hur
    obtain ⟨v, hv, -, hvst, hvr⟩ := exec_envScan (buffer.drop n) s
    rw [scanBuffer_of_some (envDecode_eq_some_of_exec hu hur)]
    exact ⟨v, _, hv, hvst, hvr, rfl⟩

/-- Settles O10: the frame is `envelopeBytes`, whose header fields fit 16 bits up to `MAX_PAYLOAD`. -/
theorem envEncFramesThePayload : Obligations.EnvEncFramesThePayload := by
  intro kind payload s
  constructor
  · intro h
    refine ⟨_, exec_envEnc_of_le kind s h, ?_, by simp⟩
    rw [← envelopeBytes_eq_mod_div kind h]
    simp [State.frameEnvelope_obuf]
  · exact fun h => ⟨_, exec_envEnc_of_lt kind s h⟩

/-- Settles O11: below 4 bytes nothing is decoded; from there on the declared length decides. -/
theorem envDecTakesTheFirstEnvelope : Obligations.EnvDecTakesTheFirstEnvelope := by
  intro buffer s
  constructor
  · intro h
    exact ⟨_, exec_envDec_of_none s (envDecode_eq_none_of_short h), rfl, rfl⟩
  · rintro b0 b1 k0 k1 rest n rfl hn
    have hd := envDecode_header b0 b1 k0 k1 rest hn
    split at hd
    · next hbad => exact ⟨_, exec_envDec_of_none s hd, rfl, by rw [if_pos hbad]; rfl⟩
    · next hgood => exact ⟨_, exec_envDec_of_some s hd, rfl, by rw [if_neg hgood]; exact ⟨rfl, rfl⟩⟩

end

section
/-! O17 and O18: the sub-frame framer (41_subframe_checksum.md R76 to R78). SUB.ENC answers `subFrameBytes`; SUB.DEC
compares the exclusive or of all bytes but the last with the last. -/

namespace Sys2Proof.Machine

variable (s : State)

/-! ## SUB.ENC -/

/-- `ACC` and `OBUF` start empty, so the response is the sub-frame of the operands alone. -/
theorem exec_subEnc (cid : Byte) (data : Bytes) :
    ∃ t, exec (.subEnc cid data) s = .next t ∧ t.response = ⟨.ok, subFrameBytes cid data, .output⟩ ∧
      t.inputs = s.inputs := by
  refine ⟨_, rfl, ?_, by simp⟩
  simp [State.frameCommand_obuf, subFrameBytes]

/-! ## SUB.DEC -/

theorem exec_subDec_of_short {bytes : Bytes} (h : bytes.length < 2) :
    exec (.subDec bytes) s = .next ((s.start bytes).raise .checksumError) := by
  match bytes, h with
  | [], _ | [_], _ => rfl
  | _ :: _ :: _, h => simp at h

/-- With a command id, data and a last byte in the buffer, the checksum alone decides. -/
theorem exec_subDec_frame (cid : Byte) (data : Bytes) (chk : Byte) :
    exec (.subDec (cid :: (data ++ [chk]))) s =
      .next (if xorFold (cid :: data) = chk then
        ((s.start (cid :: (data ++ [chk]))).foldBytes (cid :: data)).finish (.command ⟨cid, data⟩)
      else ((s.start (cid :: (data ++ [chk]))).foldBytes (cid :: data)).raise .checksumMismatch) := by
  obtain ⟨b, rest, hsplit⟩ : ∃ b rest, data ++ [chk] = b :: rest := List.exists_cons_of_ne_nil (by simp)
  have hlast : (b :: rest).getLast (List.cons_ne_nil b rest) = chk := by simp [← hsplit]
  have hdata : (b :: rest).dropLast = data := by simp [← hsplit]
  have hacc : ((s.start (cid :: b :: rest)).foldBytes (cid :: data)).acc = xorFold (cid :: data) := by simp
  rw [hsplit]
  simp only [exec, execSubDec, hlast, hdata, hacc, checksumStatus]
  by_cases h : xorFold (cid :: data) = chk
  · simp only [if_pos h]
  · simp only [if_neg h]

end Sys2Proof.Machine

open Sys2Proof Sys2Proof.Machine

/-- Settles O17: the answer is the sub-frame, for data of every length. -/
theorem subEncAppendsTheChecksum : Obligations.SubEncAppendsTheChecksum :=
  fun cid data s => exec_subEnc s cid data

/-- Settles O18: below 2 bytes there is no frame to check; from there on the checksum decides. -/
theorem subDecChecksAndOpens : Obligations.SubDecChecksAndOpens := by
  intro s
  constructor
  · exact fun bytes h => ⟨_, exec_subDec_of_short s h, by simp, by simp⟩
  · intro cid data chk
    refine ⟨_, exec_subDec_frame s cid data chk, ?inputs, ?answer⟩
    case inputs => split <;> simp
    case answer =>
      change if xorFold (cid :: data) = chk then _ else _
      by_cases h : xorFold (cid :: data) = chk
      · simp only [if_pos h]
        exact ⟨rfl, rfl⟩
      · simp only [if_neg h]
        rfl

end

section
/-! O20 to O23, O25 and O26: the bit-packed field encoders (42_field_encoders.md R90 to R97). The packed bytes come
first, as numbers and bit by bit; then what PCT2MAG computes, and which check refuses or raises. -/

namespace Sys2Proof.Machine

/-! ## The packed bytes -/

/-- Two fields in one byte: where the low field ends below the high one, the byte is their weighted sum. -/
theorem shiftLeft_or_eq_ofNat (high : Byte) {low : Byte} {n : Nat} (h : low.toNat < 2 ^ n) :
    high <<< n ||| low = BitVec.ofNat 8 (2 ^ n * high.toNat + low.toNat) := by
  apply BitVec.eq_of_toNat_eq
  have hlow : low.toNat = low.toNat % 2 ^ 8 := (Nat.mod_eq_of_lt low.isLt).symm
  rw [BitVec.toNat_or, BitVec.toNat_shiftLeft, BitVec.toNat_ofNat, hlow, ← Nat.or_mod_two_pow, ← hlow,
    ← Nat.shiftLeft_add_eq_or_of_lt h, Nat.shiftLeft_eq, Nat.mul_comm]

/-- The address pair with quotient and remainder, the marker added to the quotient (R42, R54). -/
theorem addrPair_eq_div_mod (marked : Bool) (addr : BitVec 14) :
    addrPair marked addr = [BitVec.ofNat 8 (addr.toNat / 256 + if marked then 0xC0 else 0),
      BitVec.ofNat 8 (addr.toNat % 256)] := by
  have hlow : addr.extractLsb' 0 8 = BitVec.ofNat 8 (addr.toNat % 256) := by
    apply BitVec.eq_of_toNat_eq; simp
  have hhigh : ((addr.extractLsb' 8 6).setWidth 8 : Byte).toNat = addr.toNat / 256 := by
    have := addr.isLt
    simp [Nat.shiftRight_eq_div_pow]; omega
  have hfits : ((addr.extractLsb' 8 6).setWidth 8 : Byte).toNat < 2 ^ 6 := by
    have := addr.isLt
    omega
  have hmarker : (if marked then addrMarker else 0) = (if marked then 3 else 0 : Byte) <<< 6 := by
    cases marked <;> rfl
  rw [addrPair, hlow, hmarker, BitVec.or_comm, shiftLeft_or_eq_ofNat _ hfits, hhigh, Nat.add_comm]
  cases marked <;> rfl

/-- The speed byte as a number (R43, R93). -/
theorem speedByte_eq_ofNat (mag : BitVec 7) (fwd : BitVec 1) :
    speedByte mag fwd = BitVec.ofNat 8 (128 * fwd.toNat + mag.toNat) := by
  have hmag : (mag.setWidth 8).toNat = mag.toNat := BitVec.toNat_setWidth_of_le (by decide)
  have hfwd : (fwd.setWidth 8).toNat = fwd.toNat := BitVec.toNat_setWidth_of_le (by decide)
  rw [speedByte, shiftLeft_or_eq_ofNat _ (hmag ▸ mag.isLt), hmag, hfwd, show 2 ^ 7 = 128 from rfl]

/-- The function byte as a number: an index up to 31 leaves the action's two bits clear (R44, R96). -/
theorem functionByte_eq_ofNat (action : BitVec 2) {index : Byte} (h : index.toNat ≤ 31) :
    functionByte action index = BitVec.ofNat 8 (64 * action.toNat + index.toNat) := by
  have haction : (action.setWidth 8).toNat = action.toNat := BitVec.toNat_setWidth_of_le (by decide)
  rw [functionByte, shiftLeft_or_eq_ofNat _ (by omega), haction, show 2 ^ 6 = 64 from rfl]

/-- A one-bit field stands at its position and nowhere else. -/
theorem getLsbD_shiftLeft_of_le_one {bit : Byte} (h : bit.toNat ≤ 1) (n : Nat) {k : Nat} (hk : k < 8) :
    (bit <<< n).getLsbD k = (decide (k = n) && bit.getLsbD 0) := by
  obtain rfl | rfl : bit = 0 ∨ bit = 1 := by bv_omega
  · simp
  · have hone : (1#8 <<< n).getLsbD k = decide (k = n) := by
      rw [Bool.eq_iff_iff]
      simp [hk]
      omega
    simp [hone]

/-- Every bit of the turnout byte (R45, R97). -/
theorem getLsbD_turnoutByte (c : Cfg) {output : Byte} (activate queue : BitVec 1) (h : output.toNat ≤ 1) {k : Nat}
    (hk : k < 8) :
    (turnoutByte c output activate queue).getLsbD k =
      (c.trnFixed.getLsbD k || decide (k = c.trnQBit.val) && queue.getLsbD 0 ||
        decide (k = c.trnABit.val) && activate.getLsbD 0 || decide (k = c.trnPBit.val) && output.getLsbD 0) := by
  have hbit (b : BitVec 1) : (b.setWidth 8 : Byte).toNat ≤ 1 := by
    have := b.isLt
    simp; omega
  rw [turnoutByte]
  simp only [BitVec.getLsbD_or, getLsbD_shiftLeft_of_le_one h _ hk, getLsbD_shiftLeft_of_le_one (hbit _) _ hk]
  simp

/-- Away from the three operands' positions the turnout byte is `TRN_FIXED`. -/
theorem getLsbD_turnoutByte_of_ne (c : Cfg) {output : Byte} (activate queue : BitVec 1) (h : output.toNat ≤ 1)
    {k : Nat} (hk : k < 8) (hq : k ≠ c.trnQBit.val) (ha : k ≠ c.trnABit.val) (hp : k ≠ c.trnPBit.val) :
    (turnoutByte c output activate queue).getLsbD k = c.trnFixed.getLsbD k := by
  simp [getLsbD_turnoutByte c activate queue h hk, hq, ha, hp]

/-- The four positions of R173, pair by pair. -/
theorem wellFormed_positions_ne {c : Cfg} (hc : c.WellFormed) :
    (c.trnQBit ≠ c.trnABit ∧ c.trnQBit ≠ c.trnPBit ∧ c.trnQBit ≠ c.trnRsvBit) ∧
      (c.trnABit ≠ c.trnPBit ∧ c.trnABit ≠ c.trnRsvBit) ∧ c.trnPBit ≠ c.trnRsvBit := by
  simpa using hc.positionsDiffer

/-- With positions that differ and are clear in `TRN_FIXED` (R173), each operand can be read back at its position. -/
theorem getLsbD_turnoutByte_operands {c : Cfg} (hc : c.WellFormed) {output : Byte} (activate queue : BitVec 1)
    (h : output.toNat ≤ 1) :
    (turnoutByte c output activate queue).getLsbD c.trnQBit = queue.getLsbD 0 ∧
      (turnoutByte c output activate queue).getLsbD c.trnABit = activate.getLsbD 0 ∧
      (turnoutByte c output activate queue).getLsbD c.trnPBit = output.getLsbD 0 := by
  obtain ⟨hqClear, haClear, hpClear⟩ := hc.fixedClear
  obtain ⟨⟨hqa, hqp, -⟩, ⟨hap, -⟩, -⟩ := wellFormed_positions_ne hc
  refine ⟨?queue, ?activate, ?output⟩
  case queue =>
    rw [getLsbD_turnoutByte c activate queue h c.trnQBit.isLt, hqClear]
    simp [Fin.val_inj, hqa, hqp]
  case activate =>
    rw [getLsbD_turnoutByte c activate queue h c.trnABit.isLt, haClear]
    simp [Fin.val_inj, hqa.symm, hap]
  case output =>
    rw [getLsbD_turnoutByte c activate queue h c.trnPBit.isLt, hpClear]
    simp [Fin.val_inj, hqp.symm, hap.symm]

/-- Bit 7 and the reserved bit are no operand's (R173), so they are `TRN_FIXED`'s. -/
theorem getLsbD_turnoutByte_reserved {c : Cfg} (hc : c.WellFormed) {output : Byte} (activate queue : BitVec 1)
    (h : output.toNat ≤ 1) :
    (turnoutByte c output activate queue).getLsbD 7 = c.trnFixed.getLsbD 7 ∧
      (turnoutByte c output activate queue).getLsbD c.trnRsvBit = c.trnFixed.getLsbD c.trnRsvBit := by
  obtain ⟨hq7, ha7, hp7, -⟩ := hc.positionsBelow7
  obtain ⟨⟨-, -, hqr⟩, ⟨-, har⟩, hpr⟩ := wellFormed_positions_ne hc
  constructor
  · exact getLsbD_turnoutByte_of_ne c activate queue h (by decide) (by omega) (by omega) (by omega)
  · exact getLsbD_turnoutByte_of_ne c activate queue h (Fin.isLt _) (by omega) (by omega) (by omega)

/-! ## What PCT2MAG computes -/

/-- A legal mode names a step mode, whose maximum is the mode's in `Cfg` (R46, R95). -/
theorem stepModeOf_of_ne_three (c : Cfg) {mode : BitVec 2} (h : mode ≠ 3) :
    ∃ m, stepModeOf mode = some m ∧ maxMagnitude c m =
      if mode = 0 then c.maxMag14 else if mode = 1 then c.maxMag28 else c.maxMag128 := by
  obtain rfl | rfl | rfl : mode = 0 ∨ mode = 1 ∨ mode = 2 := by
    revert mode; decide
  exacts [⟨.s14, rfl, rfl⟩, ⟨.s28, rfl, rfl⟩, ⟨.s128, rfl, rfl⟩]

/-- The clamp to 127 makes the magnitude fit its 7 bits. -/
theorem magnitudeOfPct_toNat (maxMag : Nat) (p : Int) :
    (magnitudeOfPct maxMag p).toNat = min 127 (p.natAbs * maxMag / 100) := by
  rw [magnitudeOfPct, BitVec.toNat_ofNat]
  exact Nat.mod_eq_of_lt (by omega)

theorem directionOfPct_eq_one (p : Int) : directionOfPct p = 1 ↔ 0 ≤ p := by
  unfold directionOfPct
  split <;> simp [*]

/-! ## The checks -/

theorem locoAddrCheck_of_illegal {addr : BitVec 14} (h : addr.toNat = 0 ∨ 9999 < addr.toNat) :
    locoAddrCheck addr = some (.locoAddressOutsideDomain addr) :=
  if_neg (by simp only [addrMin, addrMax]; omega)

theorem indexStatus_eq_ite (index : Byte) :
    indexStatus index = if index.toNat ≤ 31 then .ok else .error .rangeError := by
  by_cases h : index.toNat ≤ 31 <;> simp [indexStatus, fnIndexMax, h]

theorem outputStatus_of_le {output : Byte} (h : output.toNat ≤ 1) : outputStatus output = .ok := if_neg (by omega)

theorem outputStatus_of_lt {output : Byte} (h : 1 < output.toNat) : outputStatus output = .error .rangeError := if_pos h

/-- The first check, where it refuses, names the refusal (R158, entry 8). -/
theorem guarded_of_head_some {checks : List (Option Refusal)} {c : Option Refusal} {f : Refusal} {t : State}
    (h : c = some f) : guarded (c :: checks) t = .refused f := by
  subst h
  rfl

end Sys2Proof.Machine

open Sys2Proof Sys2Proof.Machine

/-- Settles O26: an operand is one bit, the positions of R173 differ, and `TRN_FIXED` is clear there. -/
theorem trnPackPlacesEachOperand : Obligations.TrnPackPlacesEachOperand := by
  intro output activate queue s
  constructor
  · intro h
    exact ⟨_, rfl, by simp [State.outputIf_response, outputStatus_of_lt h], by simp⟩
  · intro h
    have hc : Config.cfg.WellFormed := Config.supplied.wellFormed
    obtain ⟨hq, ha, hp⟩ := getLsbD_turnoutByte_operands hc activate queue h
    obtain ⟨h7, hrsv⟩ := getLsbD_turnoutByte_reserved hc activate queue h
    exact ⟨_, turnoutByte Config.cfg output activate queue, rfl,
      by simp [State.outputIf_response, outputStatus_of_le h], by simp, rfl, hq, ha, hp, h7, hrsv,
      fun k hk => getLsbD_turnoutByte_of_ne Config.cfg activate queue h hk⟩

/-- Settles O20: the check of R91 admits 1 to 9999, and `addrPair` adds the marker from 128 on. -/
theorem addrEncGivesTheMarkedPair : Obligations.AddrEncGivesTheMarkedPair := by
  intro addr s
  constructor
  · intro h
    exact ⟨_, guarded_of_none (by simpa using h) _, by simp [locoAddrPair, addrPair_eq_div_mod], by simp⟩
  · intro h
    exact ⟨_, guarded_of_head_some (locoAddrCheck_of_illegal h)⟩

/-- Settles O21: the same pair, its marker under `Cfg.TRN_ADDR_MARKER` too. -/
theorem taddrEncMarksOnlyByCfg : Obligations.TaddrEncMarksOnlyByCfg :=
  fun taddr s => ⟨_, rfl, by simp [turnoutAddrPair, addrPair_eq_div_mod, and_comm], by simp⟩

/-- Settles O22: the magnitude has 7 bits, so the direction stands above it. -/
theorem spdPackPutsDirectionAboveMagnitude : Obligations.SpdPackPutsDirectionAboveMagnitude :=
  fun mag fwd s => ⟨_, rfl, by simp [speedByte_eq_ofNat], by simp⟩

/-- Settles O23: a legal mode runs with its maximum, and the clamp to 127 loses nothing to the 7 bits. -/
theorem pct2magConvertsByTheFormula : Obligations.Pct2magConvertsByTheFormula := by
  refine ⟨Config.supplied.decided.maxMag128_eq, fun mode pct s => ⟨?refused, ?converted⟩⟩
  case refused =>
    rintro rfl
    exact ⟨_, rfl⟩
  case converted =>
    rintro p m hmode rfl rfl
    obtain ⟨stepMode, hstep, hmax⟩ := stepModeOf_of_ne_three Config.cfg hmode
    refine ⟨_, _, _, withMode_eq_next.2 ⟨stepMode, hstep, rfl⟩, rfl, rfl, rfl, ?_, directionOfPct_eq_one _⟩
    rw [magnitudeOfPct_toNat, hmax, clampedPct]

/-- Settles O25: action 3 is refused first; then the index decides between the byte and `RangeError`. -/
theorem fnPackPutsActionAboveIndex : Obligations.FnPackPutsActionAboveIndex := by
  intro action index s
  constructor
  · rintro rfl
    exact ⟨_, rfl⟩
  · intro haction
    refine ⟨_, guarded_of_none (by simpa using haction) _, by simp, ?_⟩
    rw [State.outputIf_response, indexStatus_eq_ite]
    by_cases hindex : index.toNat ≤ 31
    · simp [hindex, functionByte_eq_ofNat action hindex]
    · simp [hindex]

end

section
/-! O27 to O33: the command builders (43_command_builders.md R111 to R119). A builder inside the contract ends in
`State.commandIf`, its data made of the bytes the field encoders write to `OBUF`; so each builder and each encoder has
one equation here, and the obligations put the two side by side. -/

namespace Sys2Proof.Machine

/-! ## Refusal -/

/-- One refusing check among several is enough (R158); which one is named is entry 8's choice. -/
theorem guarded_refuses {checks : List (Option Refusal)} {c : Option Refusal} (hmem : c ∈ checks) (hc : c ≠ none)
    (t : State) : ∃ f, guarded checks t = .refused f := by
  unfold guarded
  cases h : checks.findSome? id with
  | none => exact absurd (List.findSome?_eq_none_iff.1 h c hmem) hc
  | some f => exact ⟨f, rfl⟩

theorem withMode_of_some {mode : BitVec 2} {m : StepMode} (h : stepModeOf mode = some m)
    (run : StepMode → Host.Outcome State Fault Refusal) : withMode mode run = run m := by
  simp [withMode, h]

/-! ## Status checks -/

theorem indexStatus_of_le {index : Byte} (h : index.toNat ≤ 31) : indexStatus index = .ok := by
  rw [indexStatus_eq_ite, if_pos h]

theorem indexStatus_of_lt {index : Byte} (h : 31 < index.toNat) : indexStatus index = .error .rangeError := by
  rw [indexStatus_eq_ite, if_neg (Nat.not_le.2 h)]

/-! ## The bytes -/

/-- The mode byte of a drive command, read off the operand port (R46, R116). -/
theorem stepPrefix_of_stepModeOf (c : Cfg) {mode : BitVec 2} {m : StepMode} (h : stepModeOf mode = some m) :
    stepPrefix c m = if mode = 0 then c.prefix14 else if mode = 1 then c.prefix28 else c.prefix128 := by
  unfold stepModeOf at h
  split_ifs at h with h0 h1 h2 <;> cases h
  · rw [if_pos h0, stepPrefix]
  · rw [if_neg h0, if_pos h1, stepPrefix]
  · rw [if_neg h0, if_neg h1, stepPrefix]

/-- One data byte: the checksum is the exclusive or of two bytes (R41). -/
theorem subFrameBytes_singleton (cid b : Byte) : subFrameBytes cid [b] = [cid, b, cid ^^^ b] := by
  simp [subFrameBytes]

/-! ## The encoders inside their domains -/

variable (s : State)

theorem exec_addrEnc_of_legal {addr : BitVec 14} (haddr : 1 ≤ addr.toNat ∧ addr.toNat ≤ 9999) :
    exec (.addrEnc addr) s = .next ((s.start []).output (locoAddrPair addr)) :=
  guarded_of_none (by simpa using haddr) _

theorem exec_fnPack_of_le {action : BitVec 2} {index : Byte} (haction : action ≠ 3) (hindex : index.toNat ≤ 31) :
    exec (.fnPack action index) s = .next ((s.start []).output [functionByte action index]) := by
  rw [exec, execFnPack, indexStatus_of_le hindex]
  exact guarded_of_none (by simpa using haction) _

theorem exec_trnPack_of_le {output : Byte} (activate queue : BitVec 1) (h : output.toNat ≤ 1) :
    exec (.trnPack output activate queue) s =
      .next ((s.start []).output [turnoutByte Config.cfg output activate queue]) := by
  rw [exec, execTrnPack, outputStatus_of_le h, State.outputIf]

/-! ## The builders inside the contract -/

theorem exec_locoInfo_of_legal {addr : BitVec 14} (haddr : 1 ≤ addr.toNat ∧ addr.toNat ≤ 9999) :
    exec (.locoInfo addr) s = .next ((s.start []).commandIf .ok
      ⟨Config.cfg.cidLocoInfo, Config.cfg.subidLocoInfo :: locoAddrPair addr⟩) :=
  guarded_of_none (by simpa using haddr) _

theorem exec_locoDrive_of_legal {mode : BitVec 2} {m : StepMode} {addr : BitVec 14} (mag : BitVec 7) (fwd : BitVec 1)
    (hmode : stepModeOf mode = some m) (haddr : 1 ≤ addr.toNat ∧ addr.toNat ≤ 9999) :
    exec (.locoDrive mode addr mag fwd) s = .next ((s.start []).commandIf .ok
      ⟨Config.cfg.cidLocoDrive, stepPrefix Config.cfg m :: locoAddrPair addr ++ [speedByte mag fwd]⟩) :=
  withMode_eq_next.2 ⟨m, hmode, guarded_of_none (by simpa using haddr) _⟩

/-- Inside the contract the index alone decides between the command and `RangeError` (R117, R153). -/
theorem exec_locoFunc_of_legal {addr : BitVec 14} {action : BitVec 2} (index : Byte) (haction : action ≠ 3)
    (haddr : 1 ≤ addr.toNat ∧ addr.toNat ≤ 9999) :
    exec (.locoFunc addr action index) s = .next ((s.start []).commandIf (indexStatus index)
      ⟨Config.cfg.cidLocoFunc, Config.cfg.subidLocoFunc :: locoAddrPair addr ++ [functionByte action index]⟩) :=
  guarded_of_none (by simpa using And.intro haction haddr) _

/-- The output alone decides between the command and `RangeError` (R119). -/
theorem exec_trnSet (taddr : BitVec 14) (output : Byte) (activate queue : BitVec 1) :
    exec (.trnSet taddr output activate queue) s = .next ((s.start []).commandIf (outputStatus output)
      ⟨Config.cfg.cidTrnSet, turnoutAddrPair Config.cfg taddr ++ [turnoutByte Config.cfg output activate queue]⟩) :=
  rfl

/-! ## CMD.WRAP and SEND -/

/-- CMD.WRAP answers the sub-frame in an envelope of the wrapper kind (R120). -/
theorem exec_cmdWrap_of_le (cid : Byte) {data : Bytes} (h : data.length ≤ 65529) :
    ∃ t, exec (.cmdWrap cid data) s = .next t ∧
      t.response = ⟨.ok, envelopeBytes Config.cfg.kindCmdWrapper (subFrameBytes cid data), .output⟩ ∧
      t.inputs = s.inputs := by
  refine ⟨_, guarded_of_none (by simpa using h) _, ?_, by simp⟩
  simp [State.frameEnvelope_obuf, State.frameCommand_obuf, subFrameBytes]

variable {s}

/-- SEND of a builder that answers is CMD.WRAP of its command (R58). -/
theorem sendCommand_of_command {b : BuilderCall} {t : State} {c : Command} (hexec : exec b.instr s = .next t)
    (hstatus : t.status = .ok) (hresult : t.result = .command c) :
    sendCommand b s = exec (.cmdWrap c.commandId c.data) t := by
  simp [sendCommand, andThen, hexec, hstatus, hresult]

end Sys2Proof.Machine

open Sys2Proof Sys2Proof.Machine

/-- Settles O28: PWR.ON's command is one data byte, so its sub-frame has three bytes and its envelope seven. -/
theorem powerOnEndToEnd : Obligations.PowerOnEndToEnd := by
  intro s
  refine ⟨⟨_, rfl, rfl, rfl, rfl⟩, ?subFrame, ?sent⟩
  case subFrame =>
    obtain ⟨t, ht, hresponse, -⟩ := exec_subEnc s Config.cfg.cidPower [0x81]
    rw [subFrameBytes_singleton] at hresponse
    exact ⟨t, ht, congrArg Response.obuf hresponse⟩
  case sent =>
    have hsend := sendCommand_of_command (b := .pwrOn) (s := s) rfl rfl rfl
    obtain ⟨t, ht, hresponse, -⟩ := exec_cmdWrap_of_le _ Config.cfg.cidPower (data := [0x81]) (by simp)
    rw [subFrameBytes_singleton] at hresponse
    exact ⟨t, hsend.trans ht, congrArg Response.status hresponse, congrArg Response.obuf hresponse⟩

/-- Settles O27: the three builders take no operand and read `Cfg` alone. -/
theorem fixedCommandsAreTheirConstants : Obligations.FixedCommandsAreTheirConstants :=
  fun _ => ⟨⟨_, rfl, rfl, rfl, rfl⟩, ⟨_, rfl, rfl, rfl, rfl⟩, ⟨_, rfl, rfl, rfl, rfl⟩⟩

/-- Settles O29: LOCO.INFO and ADDR.ENC share the address pair and its check. -/
theorem locoInfoCarriesTheAddress : Obligations.LocoInfoCarriesTheAddress := by
  intro addr s
  constructor
  · intro haddr
    exact ⟨_, _, exec_locoInfo_of_legal s haddr, rfl, rfl, exec_addrEnc_of_legal s haddr, rfl⟩
  · intro haddr
    exact guarded_refuses (List.mem_singleton_self _) (by simpa using haddr) _

/-- Settles O30: a legal mode gives the first data byte and nothing else; mode 3 is refused before the address is looked
at. -/
theorem locoDriveCarriesAddressAndSpeed : Obligations.LocoDriveCarriesAddressAndSpeed := by
  intro mode addr mag fwd s
  constructor
  · intro hmode haddr
    obtain ⟨m, hm, -⟩ := stepModeOf_of_ne_three Config.cfg hmode
    rw [← stepPrefix_of_stepModeOf Config.cfg hm]
    exact ⟨_, _, _, exec_locoDrive_of_legal s mag fwd hm haddr, rfl, rfl, exec_addrEnc_of_legal s haddr, rfl, rfl⟩
  · intro hillegal
    by_cases hmode : mode = 3
    · subst hmode
      exact ⟨_, rfl⟩
    · obtain ⟨m, hm, -⟩ := stepModeOf_of_ne_three Config.cfg hmode
      rw [exec, execLocoDrive, withMode_of_some hm]
      exact guarded_refuses (List.mem_singleton_self _) (by simpa using hillegal.resolve_left hmode) _

/-- Settles O31: the contract's two checks come first, then the index decides. -/
theorem locoFuncCarriesAddressAndFunction : Obligations.LocoFuncCarriesAddressAndFunction := by
  intro addr action index s
  constructor
  · intro haction haddr
    have hexec := exec_locoFunc_of_legal s index haction haddr
    constructor
    · intro hindex
      rw [indexStatus_of_le hindex] at hexec
      exact ⟨_, _, _, hexec, rfl, rfl, exec_addrEnc_of_legal s haddr, exec_fnPack_of_le s haction hindex, rfl⟩
    · intro hindex
      rw [indexStatus_of_lt hindex] at hexec
      exact ⟨_, hexec, rfl, rfl⟩
  · rintro (haction | haddr)
    · exact guarded_refuses (c := actionCheck action) (by simp) (by simpa using haction) _
    · exact guarded_refuses (c := locoAddrCheck addr) (by simp) (by simpa using haddr) _

/-- Settles O32: TRN.INFO's data is the pair TADDR.ENC writes. -/
theorem trnInfoCarriesTheAddress : Obligations.TrnInfoCarriesTheAddress :=
  fun _ _ => ⟨_, _, rfl, rfl, rfl, rfl, rfl⟩

/-- Settles O33: TRN.SET makes TRN.PACK's check of the output and carries its byte. -/
theorem trnSetCarriesAddressAndControl : Obligations.TrnSetCarriesAddressAndControl := by
  intro taddr output activate queue s
  have hexec := exec_trnSet s taddr output activate queue
  constructor
  · intro houtput
    rw [outputStatus_of_le houtput] at hexec
    exact ⟨_, _, _, hexec, rfl, rfl, rfl, exec_trnPack_of_le s activate queue houtput, rfl⟩
  · intro houtput
    rw [outputStatus_of_lt houtput] at hexec
    exact ⟨_, hexec, rfl, rfl⟩

end

section
/-! O37, O38 and O40 to O43: the optional extension (44_adjacent_decoders.md R130 to R137). The numbers read from wire
bytes come first; then EKIND over `envDecode`, the lengths a record decoder rejects, and the fields of LOCO.STAT. -/

namespace Sys2Proof.Machine

/-! ## Numbers from bytes -/

/-- Two fields of one word: where the low field ends below the high one and nothing is shifted out, the word is their
weighted sum. -/
theorem toNat_shiftLeft_or {w n : Nat} {high low : BitVec w} (hlow : low.toNat < 2 ^ n)
    (hfits : high.toNat * 2 ^ n < 2 ^ w) : (high <<< n ||| low).toNat = high.toNat * 2 ^ n + low.toNat := by
  rw [BitVec.toNat_or, BitVec.toNat_shiftLeft, Nat.shiftLeft_eq, Nat.mod_eq_of_lt hfits, ← Nat.shiftLeft_eq,
    Nat.shiftLeft_add_eq_or_of_lt hlow]

/-- The marker bits of the MSB drop out (R132). -/
theorem addrOfPair_toNat (b0 b1 : Byte) : (addrOfPair b0 b1).toNat = (b0.toNat % 64) * 256 + b1.toNat := by
  have hhigh : ((b0 &&& 0x3F).setWidth 14).toNat = b0.toNat % 64 := by
    have hand : (b0 &&& 0x3F).toNat = b0.toNat % 64 := Nat.and_two_pow_sub_one_eq_mod b0.toNat 6
    rw [BitVec.toNat_setWidth_of_le (by decide), hand]
  have hlow : (b1.setWidth 14).toNat = b1.toNat := BitVec.toNat_setWidth_of_le (by decide)
  rw [addrOfPair, toNat_shiftLeft_or (n := 8) (by omega) (by omega), hhigh, hlow, show 2 ^ 8 = 256 from rfl]

/-- The turnout address of R134 keeps all 16 bits. -/
theorem toNat_setWidth_shiftLeft_or (b0 b1 : Byte) :
    (b0.setWidth 16 <<< 8 ||| b1.setWidth 16).toNat = b0.toNat * 256 + b1.toNat := by
  have hhigh : (b0.setWidth 16).toNat = b0.toNat := BitVec.toNat_setWidth_of_le (by decide)
  have hlow : (b1.setWidth 16).toNat = b1.toNat := BitVec.toNat_setWidth_of_le (by decide)
  rw [toNat_shiftLeft_or (by omega) (by omega), hhigh, hlow, show 2 ^ 8 = 256 from rfl]

/-- The sign is bit 7 of the high byte (R8). -/
theorem s16le_eq (b0 b1 : Byte) :
    s16le b0 b1 = (b0.toNat : Int) + 256 * b1.toNat - (if 128 ≤ b1.toNat then 65536 else 0) := by
  rw [s16le, BitVec.toInt_eq_toNat_cond, u16le_toNat]
  split <;> split <;> omega

theorem u32le_toNat (b0 b1 b2 b3 : Byte) :
    (u32le b0 b1 b2 b3).toNat = b0.toNat + 256 * b1.toNat + 65536 * b2.toNat + 16777216 * b3.toNat := by
  rw [u32le, BitVec.toNat_ofNat]
  exact Nat.mod_eq_of_lt (by omega)

/-! ## EKIND -/

variable (s : State)

/-- EKIND raises where ENV.DEC does, and where the envelope has no effective kind (R130). -/
theorem exec_ekind_of_none {buffer : Bytes}
    (h : ((envDecode buffer).bind fun d => effectiveKind Config.cfg d.1) = none) :
    exec (.ekind buffer) s = .next ((s.start buffer).raise .framingError) := by
  simp only [exec, execEkind, State.start_ibuf, h]

theorem exec_ekind_of_some {buffer : Bytes} {k : U16}
    (h : ((envDecode buffer).bind fun d => effectiveKind Config.cfg d.1) = some k) :
    exec (.ekind buffer) s = .next ((s.start buffer).finish (.effectiveKind k)) := by
  simp only [exec, execEkind, State.start_ibuf, h]

theorem effectiveKind_of_ne {c : Cfg} {e : Envelope} (h : e.kind ≠ c.kindCmdWrapper) :
    effectiveKind c e = some e.kind := if_neg h

/-- A wrapper envelope has its first payload byte's kind, if it has a payload (R130). -/
theorem effectiveKind_of_eq {c : Cfg} {e : Envelope} (h : e.kind = c.kindCmdWrapper) :
    effectiveKind c e = e.payload.head?.map (BitVec.setWidth 16) := by
  rw [effectiveKind, if_pos h]
  cases e.payload <;> rfl

/-! ## Record lengths -/

/-- A record decoder that finds no record raises `LengthError` (R137). -/
theorem start_record_of_none (input : Bytes) {α : Type} {r : Option α} (f : α → Result) (h : r = none) :
    ((s.start input).record (r.map f)).response = .raised .lengthError ∧
      ((s.start input).record (r.map f)).inputs = s.inputs := by
  subst h
  exact ⟨rfl, rfl⟩

theorem locoStatusOf_eq_none (c : Cfg) {bytes : Bytes} (h : bytes.length < 2) : locoStatusOf c bytes = none := by
  unfold locoStatusOf
  split
  · simp at h
  · rfl

theorem turnoutStatusOf_eq_none {bytes : Bytes} (h : bytes.length ≠ 3) : turnoutStatusOf bytes = none := by
  unfold turnoutStatusOf
  split
  · simp at h
  · rfl

theorem telemetryOf_eq_none {bytes : Bytes} (h : bytes.length ≠ 16) : telemetryOf bytes = none := by
  unfold telemetryOf
  split
  · simp at h
  · rfl

theorem feedbackOf_eq_none {bytes : Bytes} (h : bytes.length ≠ 13) : feedbackOf bytes = none := by
  unfold feedbackOf
  split
  · simp at h
  · rfl

/-! ## The fields of LOCO.STAT -/

/-- With byte 3 the percentage is present where the step mode is (R133). -/
theorem speedPct_of_byte3 {c : Cfg} {bytes : Bytes} {l : LocoStatus} {b3 : Byte} (hl : locoStatusOf c bytes = some l)
    (h : bytes[3]? = some b3) :
    l.speedPct = l.stepMode.map fun m => c.pctdec m (b3.getLsbD 7) (b3.extractLsb' 0 7) := by
  unfold locoStatusOf at hl
  split at hl
  · cases hl
    rw [h, Option.bind_some]
  · cases hl

@[simp] theorem length_functionBits (b : Option Byte) (n : Nat) : (functionBits b n).length = n := by
  simp [functionBits]

theorem getElem?_functionBits (b : Option Byte) {n k : Nat} (h : k < n) :
    (functionBits b n)[k]? = some (b.map fun v => v.getLsbD k) := by
  simp [functionBits, h]

theorem getElem?_append_functionBits {pre : List (Option Bool)} {m : Nat} (hm : pre.length = m) (b : Option Byte)
    {n k : Nat} (h : k < n) : (pre ++ functionBits b n)[m + k]? = some (b.map fun v => v.getLsbD k) := by
  rw [List.getElem?_append_right (by omega), hm, Nat.add_sub_cancel_left, getElem?_functionBits b h]

/-- With byte 4 the table has its 32 entries, each the bit of its byte or absent with it (R133, C8): drop the blocks
after the entry's own, then read in that one. -/
theorem functionTable_entries {bytes : Bytes} {b4 : Byte} (h : bytes[4]? = some b4) :
    ∃ f, functionTable bytes = some f ∧ f.length = 32 ∧ f[0]? = some (some (b4.getLsbD 4)) ∧
      (∀ k < 4, f[1 + k]? = some (some (b4.getLsbD k))) ∧
      (∀ k < 8, f[5 + k]? = some (bytes[5]?.map fun b => b.getLsbD k)) ∧
      (∀ k < 8, f[13 + k]? = some (bytes[6]?.map fun b => b.getLsbD k)) ∧
      (∀ k < 8, f[21 + k]? = some (bytes[7]?.map fun b => b.getLsbD k)) ∧
      (∀ k < 3, f[29 + k]? = some (bytes[8]?.map fun b => b.getLsbD k)) := by
  refine ⟨_, by rw [functionTable, h]; rfl, by simp, rfl, ?_, ?_, ?_, ?_, ?_⟩ <;> intro k hk
  · iterate 4 rw [List.getElem?_append_left (by simp; omega)]
    exact getElem?_append_functionBits (pre := [_]) rfl (some b4) hk
  · iterate 3 rw [List.getElem?_append_left (by simp; omega)]
    exact getElem?_append_functionBits (by simp) _ hk
  · iterate 2 rw [List.getElem?_append_left (by simp; omega)]
    exact getElem?_append_functionBits (by simp) _ hk
  · rw [List.getElem?_append_left (by simp; omega)]
    exact getElem?_append_functionBits (by simp) _ hk
  · exact getElem?_append_functionBits (by simp) _ hk

end Sys2Proof.Machine

open Sys2Proof Sys2Proof.Machine

/-- Settles O40: with two bytes every field is read from its own byte and absent with it; the percentage is the one
field that needs two, the step mode's and the direction's. -/
theorem locoStatReadsEveryPresentField : Obligations.LocoStatReadsEveryPresentField := by
  refine ⟨fun bytes s h => ⟨_, rfl, start_record_of_none s bytes _ (locoStatusOf_eq_none _ h)⟩,
    fun b0 b1 rest s => ⟨_, _, rfl, rfl, rfl, rfl, addrOfPair_toNat b0 b1, ?noByte2, ?noByte3, ?noByte4, ?byte2,
      ?byte3, ?byte4⟩⟩
  case noByte2 =>
    rintro rfl
    exact ⟨rfl, rfl⟩
  case noByte3 =>
    intro h
    have hb3 : rest[1]? = none := List.getElem?_eq_none (by omega)
    simp [hb3]
  case noByte4 =>
    intro h
    have hb4 : rest[2]? = none := List.getElem?_eq_none (by omega)
    simp [functionTable, hb4]
  case byte2 =>
    intro b2 h
    refine ⟨by simp [h], _, rfl, ?_⟩
    simp only [List.getElem?_cons_succ, h, Option.bind_some]
    rfl
  case byte3 =>
    intro b3 h
    have hpct := speedPct_of_byte3 (c := Config.cfg) (bytes := b0 :: b1 :: rest) rfl h
    refine ⟨by simp [h], b3.extractLsb' 0 7, by simp [h], by simp, hpct, fun hmode hforward hmag => ?positive⟩
    case positive =>
      have hpos := Config.supplied.decided.pctdec_pos _ hmag
      exact ⟨_, hpct.trans (congrArg (Option.map _) hmode), hforward ▸ hpos⟩
  case byte4 =>
    intro b4 h
    exact ⟨by simp [h], by simp [h], functionTable_entries (bytes := b0 :: b1 :: rest) h⟩

/-- Settles O37: where ENV.DEC finds an envelope, its kind and then its payload decide. -/
theorem ekindUnwrapsTheWrapperKind : Obligations.EkindUnwrapsTheWrapperKind := by
  intro buffer s
  constructor
  · intro h
    exact ⟨_, exec_ekind_of_none s (by rw [envDecode_eq_none_of_short h]; rfl), rfl, rfl⟩
  · rintro b0 b1 k0 k1 rest n kind rfl hn hkind
    obtain rfl : u16le k0 k1 = kind := BitVec.eq_of_toNat_eq ((u16le_toNat k0 k1).trans hkind.symm)
    have hd := envDecode_header b0 b1 k0 k1 rest hn
    by_cases hlen : n < 4 ∨ (b0 :: b1 :: k0 :: k1 :: rest).length < n
    · rw [if_pos hlen] at hd
      exact ⟨_, exec_ekind_of_none s (by rw [hd]; rfl), rfl, by rw [if_pos hlen]; rfl⟩
    rw [if_neg hlen] at hd
    by_cases hwrapper : u16le k0 k1 = Config.cfg.kindCmdWrapper
    · have heff : ((envDecode (b0 :: b1 :: k0 :: k1 :: rest)).bind fun d => effectiveKind Config.cfg d.1) =
          (((b0 :: b1 :: k0 :: k1 :: rest).take n).drop 4).head?.map (BitVec.setWidth 16) := by
        rw [hd]
        exact effectiveKind_of_eq hwrapper
      cases hpayload : ((b0 :: b1 :: k0 :: k1 :: rest).take n).drop 4 with
      | nil =>
        refine ⟨_, exec_ekind_of_none s (by rw [heff, hpayload]; rfl), rfl, ?_⟩
        rw [if_neg hlen, if_neg (not_not.2 hwrapper)]
        rfl
      | cons b payload =>
        refine ⟨_, exec_ekind_of_some s (by rw [heff, hpayload]; rfl), rfl, ?_⟩
        rw [if_neg hlen, if_neg (not_not.2 hwrapper)]
        exact ⟨rfl, congrArg Result.effectiveKind (BitVec.ofNat_toNat 16 b).symm⟩
    · refine ⟨_, exec_ekind_of_some s (by rw [hd]; exact effectiveKind_of_ne hwrapper), rfl, ?_⟩
      rw [if_neg hlen, if_pos hwrapper]
      exact ⟨rfl, rfl⟩

/-- Settles O38: the step mode is a function of the three code bits. -/
theorem stepDecReadsTheLowThreeBits : Obligations.StepDecReadsTheLowThreeBits := by
  intro b s
  refine ⟨_, _, rfl, rfl, rfl, rfl, ?_⟩
  have hcode : b.toNat % 8 = (b.extractLsb' 0 3).toNat := by simp
  rw [stepModeOfStatus, hcode]
  generalize b.extractLsb' 0 3 = code
  revert code
  decide

/-- Settles O41: all 16 address bits are kept, and the position is a function of the two code bits. -/
theorem trnStatReadsAddressAndPosition : Obligations.TrnStatReadsAddressAndPosition := by
  refine ⟨fun b0 b1 b2 s => ⟨_, _, rfl, rfl, rfl, rfl, toNat_setWidth_shiftLeft_or b0 b1, ?position⟩,
    fun bytes s h => ⟨_, rfl, start_record_of_none s bytes _ (turnoutStatusOf_eq_none h)⟩⟩
  case position =>
    change positionOf b2 = _
    have hcode : b2.toNat % 4 = (b2.extractLsb' 0 2).toNat := by simp
    rw [positionOf, hcode]
    generalize b2.extractLsb' 0 2 = code
    revert code
    decide

/-- Settles O42: the fields are read in place from 16 bytes, and another number of bytes gives no record. -/
theorem sysTelemReadsTheRecord : Obligations.SysTelemReadsTheRecord :=
  ⟨fun b0 b1 b2 b3 b4 b5 b6 b7 b8 b9 b10 b11 _ _ _ _ _ => ⟨_, _, rfl, rfl, rfl, rfl, s16le_eq b0 b1, s16le_eq b2 b3,
      s16le_eq b4 b5, s16le_eq b6 b7, u16le_toNat b8 b9, u16le_toNat b10 b11, rfl, rfl, rfl, rfl, rfl, rfl⟩,
    fun bytes s h => ⟨_, rfl, start_record_of_none s bytes _ (telemetryOf_eq_none h)⟩⟩

/-- Settles O43: the fields are read in place from 13 bytes, and another number of bytes gives no record. -/
theorem rfbDecReadsTheRecord : Obligations.RfbDecReadsTheRecord :=
  ⟨fun b0 b1 b2 b3 b4 b5 b6 b7 _ _ _ _ _ _ => ⟨_, _, rfl, rfl, rfl, rfl, u16le_toNat b0 b1, u32le_toNat b2 b3 b4 b5,
      u16le_toNat b6 b7, rfl, rfl, rfl, rfl, rfl, rfl⟩,
    fun bytes s h => ⟨_, rfl, start_record_of_none s bytes _ (feedbackOf_eq_none h)⟩⟩

end

section
/-! O45: which operation raises which error (60_exceptions.md R151). The ends of an operation carry the status of the
check they are given; the checks, the decoders and the scan say when that is an error; the table is read off these. -/

namespace Sys2Proof.Machine

/-! ## The status of the ends -/

variable (s : State)

@[simp] theorem State.finish_status (r : Result) : (s.finish r).status = .ok := rfl
@[simp] theorem State.finish_result (r : Result) : (s.finish r).result = r := rfl
@[simp] theorem State.output_status (bs : Bytes) : (s.output bs).status = .ok := rfl
@[simp] theorem State.raise_status_eq_error (raised e : ErrorKind) :
    (s.raise raised).status = .error e ↔ e = raised :=
  ⟨fun h => (Status.error.inj h).symm, congrArg _ ∘ Eq.symm⟩

@[simp] theorem State.outputIf_status (st : Status) (bs : Bytes) : (s.outputIf st bs).status = st := by
  cases st <;> rfl

@[simp] theorem State.commandIf_status (st : Status) (c : Command) : (s.commandIf st c).status = st := by
  cases st <;> rfl

@[simp] theorem State.record_status_eq_error (r : Option Result) (e : ErrorKind) :
    (s.record r).status = .error e ↔ e = .lengthError ∧ r = none := by
  cases r <;> simp [State.record]

/-- What is known of the answer of an operation holds of the state it answers with. -/
theorem of_eq_next {o : Host.Outcome State Fault Refusal} {p : State → Prop} (h : ∃ u, o = .next u ∧ p u)
    {t : State} (ht : o = .next t) : p t := by
  obtain ⟨u, hu, hp⟩ := h
  cases hu.symm.trans ht
  exact hp

/-- A guarded operation that answers ends where it runs to. -/
theorem eq_of_guarded_eq_next {checks : List (Option Refusal)} {t u : State} (h : guarded checks t = .next u) : u = t :=
  ((guarded_eq_next checks t u).1 h).2.symm

/-! ## The checks of an operand (R96, R97) -/

theorem indexStatus_eq_error (index : Byte) (e : ErrorKind) :
    indexStatus index = .error e ↔ e = .rangeError ∧ 31 < index.toNat := by
  unfold indexStatus
  split <;> simp_all [eq_comm]

theorem outputStatus_eq_error (output : Byte) (e : ErrorKind) :
    outputStatus output = .error e ↔ e = .rangeError ∧ 1 < output.toNat := by
  unfold outputStatus
  split <;> simp_all [eq_comm]

/-! ## The record lengths (R137) -/

theorem locoStatusOf_eq_none_iff (c : Cfg) (bytes : Bytes) : locoStatusOf c bytes = none ↔ bytes.length < 2 := by
  refine ⟨fun h => ?_, locoStatusOf_eq_none c⟩
  unfold locoStatusOf at h
  split at h
  · cases h
  · match bytes with
    | [] | [_] => simp
    | b0 :: b1 :: rest => simp_all

theorem turnoutStatusOf_eq_none_iff (bytes : Bytes) : turnoutStatusOf bytes = none ↔ bytes.length ≠ 3 := by
  refine ⟨fun h hlen => ?_, turnoutStatusOf_eq_none⟩
  match bytes, hlen with
  | [_, _, _], _ => cases h

theorem telemetryOf_eq_none_iff (bytes : Bytes) : telemetryOf bytes = none ↔ bytes.length ≠ 16 := by
  refine ⟨fun h hlen => ?_, telemetryOf_eq_none⟩
  match bytes, hlen with
  | [_, _, _, _, _, _, _, _, _, _, _, _, _, _, _, _], _ => cases h

theorem feedbackOf_eq_none_iff (bytes : Bytes) : feedbackOf bytes = none ↔ bytes.length ≠ 13 := by
  refine ⟨fun h hlen => ?_, feedbackOf_eq_none⟩
  match bytes, hlen with
  | [_, _, _, _, _, _, _, _, _, _, _, _, _], _ => cases h

/-! ## The envelope decoder and the scan (R62, R65) -/

/-- Where ENV.DEC finds no envelope, in the words of R151. -/
theorem envDecode_eq_none_iff (buffer : Bytes) :
    envDecode buffer = none ↔ buffer.length < 4 ∨ ∃ b0 b1 rest, buffer = b0 :: b1 :: rest ∧
      (b0.toNat + 256 * b1.toNat < 4 ∨ buffer.length < b0.toNat + 256 * b1.toNat) := by
  match buffer with
  | [] | [_] | [_, _] | [_, _, _] => simp [envDecode_eq_none_of_short]
  | b0 :: b1 :: k0 :: k1 :: rest =>
    have hlong : ¬(b0 :: b1 :: k0 :: k1 :: rest).length < 4 := by simp
    rw [envDecode_header b0 b1 k0 k1 rest rfl, or_iff_right hlong]
    split
    · next hbad => exact iff_of_true rfl ⟨b0, b1, _, rfl, hbad⟩
    · next hgood =>
      refine iff_of_false nofun ?_
      rintro ⟨_, _, _, h, hbad⟩
      cases h
      exact hgood hbad

/-- `le16` writes back what `u16le` read. -/
theorem le16_u16le (b0 b1 : Byte) : le16 (u16le b0 b1) = [b0, b1] := by
  have h0 : BitVec.ofNat 8 ((b0.toNat + 256 * b1.toNat) % 256) = b0 := by
    apply BitVec.eq_of_toNat_eq; simp; omega
  have h1 : BitVec.ofNat 8 ((b0.toNat + 256 * b1.toNat) / 256) = b1 := by
    apply BitVec.eq_of_toNat_eq; simp; omega
  rw [le16_eq_mod_div, u16le_toNat, h0, h1]

/-- A decoded envelope stands at the front of the buffer. -/
theorem eq_envelopeBytes_append_of_envDecode {buffer : Bytes} {e : Envelope} {n : Nat}
    (h : envDecode buffer = some (e, n)) : buffer = envelopeBytes e.kind e.payload ++ buffer.drop n := by
  obtain ⟨h4, hle, -, hpayload⟩ := envDecode_bounds h
  obtain ⟨b0, b1, k0, k1, rest, hb, hn, -, -, rfl⟩ := envDecode_eq_some.1 h
  have hlen : BitVec.ofNat 16 ((slice buffer 4 n).length + 4) = u16le b0 b1 := by
    rw [hpayload, hn, BitVec.ofNat_toNat, BitVec.setWidth_eq]
  have hheader : buffer = [b0, b1] ++ [k0, k1] ++ buffer.drop 4 := by rw [hb]; rfl
  have hrest : buffer.drop 4 = slice buffer 4 n ++ buffer.drop n := by
    conv_lhs => rw [← List.take_append_drop n buffer]
    rw [List.drop_append_of_le_length (by rw [List.length_take]; omega), slice]
  rw [envelopeBytes, hlen, le16_u16le, le16_u16le, List.append_assoc, ← hrest]
  exact hheader

/-- ENV.DEC reads an envelope back whatever follows it (R63, R67). -/
theorem envDecode_envelopeBytes_append (kind : U16) {payload : Bytes} (h : payload.length ≤ 65531) (rest : Bytes) :
    envDecode (envelopeBytes kind payload ++ rest) = some (⟨kind, payload⟩, payload.length + 4) := by
  have hlen : (BitVec.ofNat 16 (payload.length + 4)).toNat = payload.length + 4 := by
    rw [BitVec.toNat_ofNat]; omega
  refine envDecode_eq_some.2 ⟨_, _, _, _, payload ++ rest, rfl, ?_, by omega, ?_, ?_⟩
  · rw [u16le_le16, hlen]
  · simp [envelopeBytes, le16]
  · rw [u16le_le16]; simp [slice, envelopeBytes, le16]

/-- A buffer of whole envelopes, one after the other. -/
def RowOfEnvelopes (buffer : Bytes) : Prop :=
  ∃ es : List Envelope, (∀ k ∈ es, k.payload.length ≤ 65531) ∧
    buffer = es.flatMap fun k => envelopeBytes k.kind k.payload

theorem rowOfEnvelopes_nil : RowOfEnvelopes [] := ⟨[], by simp, rfl⟩

theorem rowOfEnvelopes_cons {e : Envelope} {rest : Bytes} (h : e.payload.length ≤ 65531) (hrest : RowOfEnvelopes rest) :
    RowOfEnvelopes (envelopeBytes e.kind e.payload ++ rest) := by
  obtain ⟨es, hes, rfl⟩ := hrest
  exact ⟨e :: es, List.forall_mem_cons.2 ⟨h, hes⟩, by simp⟩

/-- A row with a byte in it begins with an envelope ENV.DEC finds, and is a row after it. -/
theorem RowOfEnvelopes.exists_envDecode {buffer : Bytes} (h : RowOfEnvelopes buffer) (hne : buffer ≠ []) :
    ∃ e n, envDecode buffer = some (e, n) ∧ RowOfEnvelopes (buffer.drop n) := by
  obtain ⟨es, hes, rfl⟩ := h
  cases es with
  | nil => exact absurd rfl hne
  | cons e es =>
    obtain ⟨he, hes⟩ := List.forall_mem_cons.1 hes
    have hd := envDecode_envelopeBytes_append e.kind he (es.flatMap fun k => envelopeBytes k.kind k.payload)
    refine ⟨_, _, hd, es, hes, ?_⟩
    simp [envelopeBytes, le16]

/-- The scan fails exactly on a buffer that is no row of whole envelopes. -/
theorem scanBuffer_status_eq_error (buffer : Bytes) (e : ErrorKind) :
    (scanBuffer buffer).2 = .error e ↔ e = .framingError ∧ ¬RowOfEnvelopes buffer := by
  induction buffer using scanBuffer.induct with
  | case1 => simp [rowOfEnvelopes_nil]
  | case2 b bs hd =>
    have hrow : ¬RowOfEnvelopes (b :: bs) := fun h => by
      obtain ⟨_, _, hsome, -⟩ := h.exists_envDecode (by simp)
      cases hd.symm.trans hsome
    simp [scanBuffer_of_none (by simp) hd, hrow, eq_comm]
  | case3 b bs k n hd ih =>
    have hrow : RowOfEnvelopes (b :: bs) ↔ RowOfEnvelopes ((b :: bs).drop n) := by
      constructor
      · intro h
        obtain ⟨_, _, hsome, hrest⟩ := h.exists_envDecode (by simp)
        cases hd.symm.trans hsome
        exact hrest
      · intro h
        obtain ⟨-, -, hn, hpayload⟩ := envDecode_bounds hd
        rw [eq_envelopeBytes_append_of_envDecode hd]
        exact rowOfEnvelopes_cons (by omega) h
    rw [scanBuffer_of_some hd, hrow, ih]

/-! ## The operations with branches of their own -/

/-- ENV.DEC answers on every buffer, and raises where `envDecode` finds no envelope (R62). -/
theorem exec_envDec_status (buffer : Bytes) : ∃ t, exec (.envDec buffer) s = .next t ∧ ∀ e, t.status = .error e ↔
    e = .framingError ∧ envDecode buffer = none := by
  cases hd : envDecode buffer with
  | none => exact ⟨_, exec_envDec_of_none s hd, by simp⟩
  | some d => exact ⟨_, exec_envDec_of_some s hd, by simp⟩

/-- SUB.DEC answers on every operand (R78). -/
theorem exec_subDec_status (bytes : Bytes) : ∃ t, exec (.subDec bytes) s = .next t ∧ ∀ e, t.status = .error e ↔
    (e = .checksumError ∧ bytes.length < 2) ∨
      (e = .checksumMismatch ∧ 2 ≤ bytes.length ∧
        some (bytes.dropLast.foldl (fun a x => a ^^^ x) 0x00) ≠ bytes.getLast?) := by
  by_cases hshort : bytes.length < 2
  · refine ⟨_, exec_subDec_of_short s hshort, fun e => ?_⟩
    simp [hshort]
  · obtain ⟨cid, data, chk, rfl⟩ : ∃ cid data chk, bytes = cid :: (data ++ [chk]) := by
      match bytes with
      | [] | [_] => simp at hshort
      | cid :: b :: rest =>
        exact ⟨cid, (b :: rest).dropLast, _, by rw [List.dropLast_append_getLast (List.cons_ne_nil b rest)]⟩
    refine ⟨_, exec_subDec_frame s cid data chk, fun e => ?_⟩
    have hfold : (cid :: (data ++ [chk])).dropLast.foldl (fun a x => a ^^^ x) 0x00 = xorFold (cid :: data) := by
      rw [← List.cons_append, List.dropLast_concat]; rfl
    have hlast : (cid :: (data ++ [chk])).getLast? = some chk := by
      rw [← List.cons_append, List.getLast?_concat]
    rw [hfold, hlast]
    by_cases hchk : xorFold (cid :: data) = chk
    · simp [hchk]
    · rw [if_neg hchk, State.raise_status_eq_error]
      simp [-xorFold_cons, hchk]

/-- Only a wrapper envelope without payload has no effective kind (R130). -/
theorem effectiveKind_eq_none_iff (c : Cfg) (k : Envelope) :
    effectiveKind c k = none ↔ k.kind = c.kindCmdWrapper ∧ k.payload = [] := by
  by_cases h : k.kind = c.kindCmdWrapper
  · simp [effectiveKind_of_eq h, h]
  · simp [effectiveKind_of_ne h, h]

/-- EKIND raises where ENV.DEC does, and on a wrapper envelope without payload (R130). -/
theorem exec_ekind_status (buffer : Bytes) : ∃ t, exec (.ekind buffer) s = .next t ∧ ∀ e, t.status = .error e ↔
    e = .framingError ∧ ∃ u, exec (.envDec buffer) s = .next u ∧ (u.status = .error .framingError ∨
      ∃ k n, u.result = .envelope k n ∧ k.kind = Config.cfg.kindCmdWrapper ∧ k.payload = []) := by
  cases hd : envDecode buffer with
  | none =>
    refine ⟨_, exec_ekind_of_none s (by rw [hd]; rfl), fun e => ?_⟩
    simp [exec_envDec_of_none s hd]
  | some d =>
    obtain ⟨k, n⟩ := d
    have hbind : ((envDecode buffer).bind fun d => effectiveKind Config.cfg d.1) = effectiveKind Config.cfg k := by
      rw [hd]; rfl
    cases heff : effectiveKind Config.cfg k with
    | none =>
      refine ⟨_, exec_ekind_of_none s (hbind.trans heff), fun e => ?_⟩
      simp [exec_envDec_of_some s hd, ← effectiveKind_eq_none_iff, heff]
    | some kind =>
      refine ⟨_, exec_ekind_of_some s (hbind.trans heff), fun e => ?_⟩
      simp [exec_envDec_of_some s hd, ← effectiveKind_eq_none_iff, heff]

/-- STEP.DEC answers `OK` on every operand (R131, entry 6). -/
theorem exec_stepDec_status (bytes : Bytes) : ∃ t, exec (.stepDec bytes) s = .next t ∧ t.status = .ok := by
  simp only [exec, execStepDec]
  split <;> exact ⟨_, rfl, rfl⟩

/-- ADDR.DEC answers on every operand (R132). -/
theorem exec_addrDec_status (bytes : Bytes) : ∃ t, exec (.addrDec bytes) s = .next t ∧ ∀ e, t.status = .error e ↔
    e = .lengthError ∧ bytes.length ≠ 2 := by
  match bytes with
  | [_, _] | [] | [_] | _ :: _ :: _ :: _ => exact ⟨_, rfl, by simp⟩

end Sys2Proof.Machine

open Sys2Proof Sys2Proof.Machine

/-- Settles O45: an operation in the table has its check's status or answers as its decoder finds, and every other ends
with `OK`. -/
theorem errorsAreRaisedExactlyByTheTable : Obligations.ErrorsAreRaisedExactlyByTheTable := by
  intro i s t e ht
  cases i with
  | envDec buffer =>
    rw [of_eq_next (exec_envDec_status s buffer) ht, envDecode_eq_none_iff]
  | envScan buffer =>
    obtain ⟨-, hst, -⟩ := of_eq_next (exec_envScan buffer s) ht
    rw [hst]
    exact scanBuffer_status_eq_error buffer e
  | subDec bytes => exact of_eq_next (exec_subDec_status s bytes) ht e
  | ekind buffer => exact of_eq_next (exec_ekind_status s buffer) ht e
  | fnPack action index =>
    rw [eq_of_guarded_eq_next ht, State.outputIf_status, indexStatus_eq_error]
  | locoFunc addr action index =>
    rw [eq_of_guarded_eq_next ht, State.commandIf_status, indexStatus_eq_error]
  | trnPack output activate queue =>
    cases ht
    rw [State.outputIf_status, outputStatus_eq_error]
  | trnSet taddr output activate queue =>
    cases ht
    rw [State.commandIf_status, outputStatus_eq_error]
  | addrDec bytes => exact of_eq_next (exec_addrDec_status s bytes) ht e
  | trnStat bytes =>
    cases ht
    simp [turnoutStatusOf_eq_none_iff]
  | sysTelem bytes =>
    cases ht
    simp [telemetryOf_eq_none_iff]
  | rfbDec bytes =>
    cases ht
    simp [feedbackOf_eq_none_iff]
  | locoStat bytes =>
    cases ht
    simp [locoStatusOf_eq_none_iff]
  | envEnc | cmdWrap | addrEnc | locoInfo =>
    rw [eq_of_guarded_eq_next ht]
    exact iff_of_false nofun id
  | pct2mag mode pct =>
    obtain ⟨m, -, hm⟩ := withMode_eq_next.1 ht
    cases hm
    exact iff_of_false nofun id
  | locoDrive mode addr mag fwd =>
    obtain ⟨m, -, hm⟩ := withMode_eq_next.1 ht
    rw [eq_of_guarded_eq_next hm]
    exact iff_of_false nofun id
  | stepDec bytes =>
    rw [of_eq_next (exec_stepDec_status s bytes) ht]
    exact iff_of_false nofun id
  | xorfold | subEnc | taddrEnc | spdPack | pwrOn | pwrOff | verReq | fwverReq | trnInfo =>
    cases ht
    exact iff_of_false nofun id

end

section
/-! O8: refusal (60_exceptions.md R158). Which operations refuse is read off their checks, once for each operation; the
contract on a request is that on the operation it selects, because its row reads each port the contract names for it. -/

namespace Sys2Proof.Machine

/-! ## Outcomes that refuse -/

/-- The request is refused (R158). -/
def Refuses (o : Host.Outcome State Fault Refusal) : Prop := ∃ f, o = .refused f

@[simp] theorem refuses_refused (f : Refusal) : Refuses (.refused f) := ⟨f, rfl⟩

@[simp] theorem not_refuses_next (t : State) : ¬Refuses (.next t) := nofun

theorem not_refuses_of_answers {o : Host.Outcome State Fault Refusal} {p : State → Prop} (h : ∃ t, o = .next t ∧ p t) :
    ¬Refuses o := by
  obtain ⟨t, rfl, -⟩ := h
  exact not_refuses_next t

@[simp] theorem refuses_guarded (checks : List (Option Refusal)) (t : State) :
    Refuses (guarded checks t) ↔ ∃ c ∈ checks, c ≠ none := by
  constructor
  · rintro ⟨f, hf⟩
    by_contra! hnone
    cases (guarded_of_none hnone t).symm.trans hf
  · rintro ⟨c, hmem, hc⟩
    exact guarded_refuses hmem hc t

/-- Where every legal mode is refused on one condition, that condition and mode 3 are the grounds. -/
theorem refuses_withMode {mode : BitVec 2} {run : StepMode → Host.Outcome State Fault Refusal} {p : Prop}
    (hrun : ∀ m, Refuses (run m) ↔ p) : Refuses (withMode mode run) ↔ mode = 3 ∨ p := by
  by_cases hmode : mode = 3
  · subst hmode
    exact iff_of_true ⟨_, rfl⟩ (.inl rfl)
  · obtain ⟨m, hm, -⟩ := stepModeOf_of_ne_three Config.cfg hmode
    rw [withMode_of_some hm, hrun, or_iff_right hmode]

/-- The domain of R91 in the words of R158. -/
theorem locoAddrCheck_ne_none (addr : BitVec 14) : locoAddrCheck addr ≠ none ↔ addr = 0 ∨ 9999 < addr.toNat := by
  have hzero : addr = 0 ↔ addr.toNat = 0 := BitVec.toNat_eq
  rw [Ne, locoAddrCheck_eq_none, hzero]
  omega

/-! ## The operations that refuse -/

variable (s : State)

/-- An operation refuses exactly when its own request is outside the contract. -/
theorem refuses_exec (i : Instr) : Refuses (exec i s) ↔ (encode i).outsideContract := by
  cases i with
  | envEnc kind payload => simp [exec, execEnvEnc, Request.outsideContract, encode, selectors]
  | cmdWrap cid data => simp [exec, execCmdWrap, Request.outsideContract, encode, selectors]
  | addrEnc addr =>
    simp [exec, execAddrEnc, -locoAddrCheck_eq_none, locoAddrCheck_ne_none, Request.outsideContract, encode, selectors]
  | locoInfo addr =>
    simp [exec, execLocoInfo, -locoAddrCheck_eq_none, locoAddrCheck_ne_none, Request.outsideContract, encode, selectors]
  | fnPack action index => simp [exec, execFnPack, Request.outsideContract, encode, selectors]
  | locoFunc addr action index =>
    simp [exec, execLocoFunc, -locoAddrCheck_eq_none, locoAddrCheck_ne_none, Request.outsideContract, encode, selectors]
  | pct2mag mode pct =>
    refine (refuses_withMode (p := False) fun m => by simp).trans ?_
    simp [Request.outsideContract, encode, selectors]
  | locoDrive mode addr mag fwd =>
    refine (refuses_withMode (p := locoAddrCheck addr ≠ none) fun m => by simp).trans ?_
    simp [-locoAddrCheck_eq_none, locoAddrCheck_ne_none, Request.outsideContract, encode, selectors]
  | envDec buffer =>
    exact iff_of_false (not_refuses_of_answers (exec_envDec_status s buffer))
      (by simp [Request.outsideContract, encode, selectors])
  | subDec bytes =>
    exact iff_of_false (not_refuses_of_answers (exec_subDec_status s bytes))
      (by simp [Request.outsideContract, encode, selectors])
  | ekind buffer =>
    exact iff_of_false (not_refuses_of_answers (exec_ekind_status s buffer))
      (by simp [Request.outsideContract, encode, selectors])
  | stepDec bytes =>
    exact iff_of_false (not_refuses_of_answers (exec_stepDec_status s bytes))
      (by simp [Request.outsideContract, encode, selectors])
  | addrDec bytes =>
    exact iff_of_false (not_refuses_of_answers (exec_addrDec_status s bytes))
      (by simp [Request.outsideContract, encode, selectors])
  | envScan | xorfold | subEnc | taddrEnc | spdPack | trnPack | pwrOn | pwrOff | verReq | fwverReq | trnInfo | trnSet
  | locoStat | trnStat | sysTelem | rfbDec =>
    exact iff_of_false (not_refuses_next _) (by simp [Request.outsideContract, encode, selectors])

/-! ## Requests -/

/-- The contract on a request reads `OPSEL` and, for the selectors it names them with, four ports. -/
theorem outsideContract_congr {r r' : Request} (hopsel : r.opsel = r'.opsel)
    (hmode : r'.opsel ∈ [0x23, 0x35] → r.mode = r'.mode) (haction : r'.opsel ∈ [0x24, 0x36] → r.action = r'.action)
    (haddr : r'.opsel ∈ [0x20, 0x34, 0x35, 0x36] → r.addr = r'.addr)
    (hibuf : r'.opsel ∈ [0x01, 0x3F] → r.ibuf = r'.ibuf) : r.outsideContract ↔ r'.outsideContract := by
  unfold Request.outsideContract
  rw [hopsel]
  refine or_congr_right (or_congr (and_congr_right fun h => ?_) (or_congr (and_congr_right fun h => ?_)
    (or_congr (and_congr_right fun h => ?_) (or_congr (and_congr_right fun h => ?_) (and_congr_right fun h => ?_)))))
  · rw [hmode h]
  · rw [haction h]
  · rw [haddr h]
  · rw [hibuf (by simp [h])]
  · rw [hibuf (by simp [h])]

/-- Every row of the map reads the ports the contract names with its selector (R48). -/
theorem encode_build_ports : ∀ row ∈ operationMap, ∀ r : Request, (encode (row.build r)).opsel = row.opsel ∧
    (row.opsel ∈ [0x23, 0x35] → (encode (row.build r)).mode = r.mode) ∧
    (row.opsel ∈ [0x24, 0x36] → (encode (row.build r)).action = r.action) ∧
    (row.opsel ∈ [0x20, 0x34, 0x35, 0x36] → (encode (row.build r)).addr = r.addr) ∧
    (row.opsel ∈ [0x01, 0x3F] → (encode (row.build r)).ibuf = r.ibuf) := by
  simp [operationMap, framerRows, fieldRows, builderRows, extensionRows, encode]

theorem outsideContract_encode_of_decode {r : Request} {i : Instr} (h : decode r = .ok i) :
    (encode i).outsideContract ↔ r.outsideContract := by
  unfold decode at h
  split at h
  · next row hrow =>
    cases h
    have hsel : row.opsel = r.opsel := by simpa using List.find?_some hrow
    obtain ⟨hopsel, hports⟩ := encode_build_ports row (List.mem_of_find?_eq_some hrow) r
    rw [hsel] at hopsel hports
    obtain ⟨hmode, haction, haddr, hibuf⟩ := hports
    exact outsideContract_congr hopsel hmode haction haddr hibuf
  · cases h

/-- A selector that selects no operation is outside the contract (R51). -/
theorem outsideContract_of_decode_error {r : Request} {e : DecodeError} (h : decode r = .error e) :
    r.outsideContract := by
  unfold decode at h
  split at h
  · cases h
  · next hrow =>
    refine .inl fun hmem => ?_
    have hmap : selectors = operationMap.map (·.opsel) := by decide
    rw [hmap] at hmem
    obtain ⟨row, hrows, hsel⟩ := List.mem_map.1 hmem
    exact List.find?_eq_none.1 hrow row hrows (by simpa using hsel)

/-- A request is refused exactly when it is outside the contract. -/
theorem refuses_runRequest (r : Request) : Refuses (runRequest r s) ↔ r.outsideContract := by
  unfold runRequest
  split
  · next i hi => rw [refuses_exec, outsideContract_encode_of_decode hi]
  · next hi => exact iff_of_true (refuses_refused _) (outsideContract_of_decode_error hi)

end Sys2Proof.Machine

open Sys2Proof Sys2Proof.Machine

/-- Settles O8: a step with a request presented runs it on the state without it, and there it is refused exactly when it
is outside the contract. -/
theorem refusedExactlyOutsideTheContract : Obligations.RefusedExactlyOutsideTheContract := by
  intro s r rest hs
  have hstep : step s = runRequest r { s with inputs := rest } := by simp [step, State.nextInput, hs]
  rw [hstep]
  exact refuses_runRequest _ r

end

section
/-! O7: decoding and encoding (30_encoding.md R48, R49). Row by row the operation's own request is the presented one as
the row reads it; decoding then undoes encoding, so that what a row reads fixes the operation. -/

namespace Sys2Proof

/-- The row a selector names stands in the map with that selector. -/
theorem mem_operationMap_of_rowOf {opsel : Byte} {row : OpRow} (h : rowOf opsel = some row) :
    row ∈ operationMap ∧ row.opsel = opsel :=
  ⟨List.mem_of_find?_eq_some h, by simpa using List.find?_some h⟩

theorem decode_eq_ok {r : Request} {i : Instr} :
    decode r = .ok i ↔ ∃ row, rowOf r.opsel = some row ∧ row.build r = i := by
  unfold decode
  cases rowOf r.opsel <;> simp

theorem Request.read_of_rowOf {r : Request} {row : OpRow} (h : rowOf r.opsel = some row) : r.read = row.operands r := by
  simp only [Request.read, h]

/-- A row builds the operation whose own request is what the row reads (R49). -/
theorem encode_build : ∀ row ∈ operationMap, ∀ r : Request, row.opsel = r.opsel →
    encode (row.build r) = row.operands r ∧ (row.operands r).opsel = r.opsel := by
  simp +contextual [operationMap, framerRows, fieldRows, builderRows, extensionRows, encode]

/-- Every constructor has its row. -/
theorem decode_encode (i : Instr) : decode (encode i) = .ok i := by
  cases i <;> rfl

theorem encode_of_decode {r : Request} {i : Instr} (h : decode r = .ok i) :
    encode i = r.read ∧ r.read.opsel = r.opsel := by
  obtain ⟨row, hrow, rfl⟩ := decode_eq_ok.1 h
  obtain ⟨hmem, hsel⟩ := mem_operationMap_of_rowOf hrow
  rw [Request.read_of_rowOf hrow]
  exact encode_build row hmem r hsel

/-- Requests of one selector that their row reads alike select the same operation: both operations have the request read
as their own. -/
theorem decode_of_read_eq {r r' : Request} {i : Instr} (hread : r.read = r'.read) (hsel : r.opsel = r'.opsel)
    (h : decode r = .ok i) : decode r' = .ok i := by
  obtain ⟨row, hrow, -⟩ := decode_eq_ok.1 h
  have h' : decode r' = .ok (row.build r') := decode_eq_ok.2 ⟨row, hsel ▸ hrow, rfl⟩
  have hencode : encode i = encode (row.build r') :=
    (encode_of_decode h).1.trans (hread.trans (encode_of_decode h').1.symm)
  rw [← decode_encode i, hencode, decode_encode, h']

end Sys2Proof

open Sys2Proof

/-- Settles O7: the round trip, its converse up to the ports a row ignores, and what follows of requests read alike. -/
theorem decodeAndEncodeAgree : Obligations.DecodeAndEncodeAgree :=
  ⟨decode_encode, fun _ _ => encode_of_decode, fun _ _ hread hsel _ => decode_of_read_eq hread hsel⟩

end

section
/-! O14, O15, O34 and O35: envelopes read back (40_envelope.md R65, R66), and the wrap (43_command_builders.md R120).
The scan of a row of envelopes is the row and then the scan of what follows; CMD.WRAP is ENV.ENC of a sub-frame. -/

namespace Sys2Proof.Machine

/-! ## Lengths of the frames -/

@[simp] theorem length_envelopeBytes (kind : U16) (payload : Bytes) :
    (envelopeBytes kind payload).length = payload.length + 4 := by
  simp [envelopeBytes, le16]

@[simp] theorem length_subFrameBytes (cid : Byte) (data : Bytes) :
    (subFrameBytes cid data).length = data.length + 2 := by
  simp [subFrameBytes]

/-! ## ENV.ENC after ENV.DEC, and ENV.DEC after ENV.ENC -/

theorem exec_envEnc_response (kind : U16) {payload : Bytes} (s : State) (h : payload.length ≤ 65531) :
    ∃ t, exec (.envEnc kind payload) s = .next t ∧ t.response = ⟨.ok, envelopeBytes kind payload, .output⟩ :=
  ⟨_, exec_envEnc_of_le kind s h, by simp [State.frameEnvelope_obuf]⟩

/-- The bytes a decoded envelope occupies are its own frame. -/
theorem take_eq_envelopeBytes_of_envDecode {buffer : Bytes} {e : Envelope} {n : Nat}
    (h : envDecode buffer = some (e, n)) : buffer.take n = envelopeBytes e.kind e.payload := by
  obtain ⟨-, -, -, hpayload⟩ := envDecode_bounds h
  rw [eq_envelopeBytes_append_of_envDecode h, List.take_left' (by simp [hpayload])]

theorem envDecode_envelopeBytes (kind : U16) {payload : Bytes} (h : payload.length ≤ 65531) :
    envDecode (envelopeBytes kind payload) = some (⟨kind, payload⟩, payload.length + 4) := by
  simpa using envDecode_envelopeBytes_append kind h []

/-! ## Envelopes laid end to end -/

/-- The scan takes the envelopes one by one and goes on with what follows them. -/
theorem scanBuffer_flatMap_append (es : List Envelope) (tail : Bytes) (h : ∀ e ∈ es, e.payload.length ≤ 65531) :
    scanBuffer ((es.flatMap fun e => envelopeBytes e.kind e.payload) ++ tail) =
      (es ++ (scanBuffer tail).1, (scanBuffer tail).2) := by
  induction es with
  | nil => rfl
  | cons e es ih =>
    obtain ⟨he, hes⟩ := List.forall_mem_cons.1 h
    rw [List.flatMap_cons, List.append_assoc, scanBuffer_of_some (envDecode_envelopeBytes_append e.kind he _),
      List.drop_left' (length_envelopeBytes _ _), ih hes, List.cons_append]

/-! ## The sub-frame and its wrapper -/

/-- SUB.DEC opens the sub-frame of a command to that command (41_subframe_checksum.md R79). -/
theorem exec_subDec_subFrameBytes (cid : Byte) (data : Bytes) (s : State) :
    ∃ t, exec (.subDec (subFrameBytes cid data)) s = .next t ∧ t.status = .ok ∧ t.result = .command ⟨cid, data⟩ := by
  have hexec := exec_subDec_frame s cid data (xorFold (cid :: data))
  rw [if_pos rfl] at hexec
  exact ⟨_, hexec, rfl, rfl⟩

/-- A wrapped command has its command id as effective kind (44_adjacent_decoders.md R130). -/
theorem effectiveKind_subFrameBytes (c : Cfg) (cid : Byte) (data : Bytes) :
    effectiveKind c ⟨c.kindCmdWrapper, subFrameBytes cid data⟩ = some (cid.setWidth 16) :=
  effectiveKind_of_eq rfl

theorem exec_cmdWrap_of_lt (cid : Byte) {data : Bytes} (s : State) (h : 65529 < data.length) :
    ∃ f, exec (.cmdWrap cid data) s = .refused f :=
  guarded_refuses (List.mem_singleton_self _) (by simpa using h) _

/-- The envelope of a sub-frame, its length field, wrapper kind, command and checksum written out (R120). -/
theorem envelopeBytes_subFrameBytes (kind : U16) (cid : Byte) (data : Bytes) :
    envelopeBytes kind (subFrameBytes cid data) =
      le16 (BitVec.ofNat 16 (data.length + 6)) ++ le16 kind ++ [cid] ++ data ++ [xorFold (cid :: data)] := by
  rw [envelopeBytes, length_subFrameBytes]
  simp [subFrameBytes]

end Sys2Proof.Machine

open Sys2Proof Sys2Proof.Machine

/-- Settles O14: decode and encode are inverse on `envelopeBytes`, and a row of envelopes with nothing after it is
scanned to itself. -/
theorem envelopeRoundTrips : Obligations.EnvelopeRoundTrips := by
  refine ⟨?decodeEncode, ?encodeDecode, ?scan⟩
  case decodeEncode =>
    intro kind payload s h
    obtain ⟨t, ht, hresponse⟩ := exec_envEnc_response kind s h
    have hobuf : t.obuf = envelopeBytes kind payload := congrArg Response.obuf hresponse
    have hd : envDecode t.obuf = some (⟨kind, payload⟩, payload.length + 4) := by
      rw [hobuf, envDecode_envelopeBytes kind h]
    exact ⟨t, _, ht, exec_envDec_of_some t hd, rfl, rfl⟩
  case encodeDecode =>
    intro buffer s t e n ht _ hr
    have hd : envDecode buffer = some (e, n) := envDecode_eq_some_of_exec ht hr
    obtain ⟨-, -, hn, hpayload⟩ := envDecode_bounds hd
    obtain ⟨u, hu, hresponse⟩ := exec_envEnc_response e.kind (payload := e.payload) s (by omega)
    rw [take_eq_envelopeBytes_of_envDecode hd]
    exact ⟨u, hu, congrArg Response.status hresponse, congrArg Response.obuf hresponse⟩
  case scan =>
    intro es s h
    obtain ⟨t, ht, -, hst, hr⟩ := exec_envScan (es.flatMap fun e => envelopeBytes e.kind e.payload) s
    have hscan := scanBuffer_flatMap_append es [] h
    rw [List.append_nil, scanBuffer_nil, List.append_nil] at hscan
    exact ⟨t, ht, by rw [hst, hscan], by rw [hr, hscan]⟩

/-- Settles O15: behind the envelopes the scan meets a tail it finds no envelope in. -/
theorem scanKeepsTheEnvelopesBeforeDamage : Obligations.ScanKeepsTheEnvelopesBeforeDamage := by
  intro es tail s u h hne hu hust
  have hscan := scanBuffer_flatMap_append es tail h
  rw [scanBuffer_of_none hne (envDecode_eq_none_of_exec hu hust), List.append_nil] at hscan
  obtain ⟨t, ht, -, hst, hr⟩ := exec_envScan ((es.flatMap fun e => envelopeBytes e.kind e.payload) ++ tail) s
  exact ⟨t, ht, by rw [hst, hscan], by rw [hr, hscan]⟩

/-- Settles O35: the decoders open the two frames CMD.WRAP puts around the command, each with the law of its framer. -/
theorem wrappedCommandsAreReadBack : Obligations.WrappedCommandsAreReadBack := by
  intro cid data s h
  obtain ⟨t, ht, hresponse, -⟩ := exec_cmdWrap_of_le s cid h
  have hobuf : t.obuf = envelopeBytes Config.cfg.kindCmdWrapper (subFrameBytes cid data) :=
    congrArg Response.obuf hresponse
  have hd : envDecode t.obuf =
      some (⟨Config.cfg.kindCmdWrapper, subFrameBytes cid data⟩, (subFrameBytes cid data).length + 4) := by
    rw [hobuf]
    exact envDecode_envelopeBytes _ (by rw [length_subFrameBytes]; omega)
  have hkind : ((envDecode t.obuf).bind fun d => effectiveKind Config.cfg d.1) = some (cid.setWidth 16) := by
    rw [hd, Option.bind_some, effectiveKind_subFrameBytes]
  obtain ⟨u, hu, hur⟩ : ∃ u, exec (.envDec t.obuf) t = .next u ∧
      u.result = .envelope ⟨Config.cfg.kindCmdWrapper, subFrameBytes cid data⟩ ((subFrameBytes cid data).length + 4) :=
    ⟨_, exec_envDec_of_some t hd, rfl⟩
  obtain ⟨v, hv, hvst, hvr⟩ := exec_subDec_subFrameBytes cid data u
  exact ⟨t, u, v, _, _, _, ht, hu, hur, by rw [hobuf, length_envelopeBytes], hv, hvst, hvr,
    exec_ekind_of_some t hkind, rfl, rfl⟩

/-- Settles O34: ENV.ENC of the bytes SUB.ENC writes and CMD.WRAP have the same response. -/
theorem cmdWrapFramesTheSubFrame : Obligations.CmdWrapFramesTheSubFrame := by
  intro cid data s
  refine ⟨fun h => ?_, exec_cmdWrap_of_lt cid s⟩
  obtain ⟨t, ht, htresponse, hinputs⟩ := exec_cmdWrap_of_le s cid h
  obtain ⟨u, hu, huresponse, -⟩ := exec_subEnc s cid data
  have hobuf : u.obuf = subFrameBytes cid data := congrArg Response.obuf huresponse
  obtain ⟨v, hv, hvresponse⟩ := exec_envEnc_response Config.cfg.kindCmdWrapper (payload := u.obuf) u
    (by rw [hobuf, length_subFrameBytes]; omega)
  refine ⟨t, u, v, ht, hinputs, hu, hv, ?_, ?_⟩
  · rw [htresponse, hvresponse, hobuf]
  · rw [htresponse, envelopeBytes_subFrameBytes]
    rfl

end

section
/-! O16 and O19: parity and the laws of the sub-frame framer (41_subframe_checksum.md R75, R79). A frame of 2 bytes or
more is accepted exactly when its exclusive or is 0x00, and bit by bit that is a parity; the laws follow. -/

namespace Sys2Proof.Machine

/-! ## Parity -/

/-- Bit `k` of the fold is the parity of the bytes that have it (R75). -/
theorem getLsbD_xorFold (bytes : Bytes) (k : Nat) :
    (xorFold bytes).getLsbD k = decide ((bytes.filter fun x => x.getLsbD k).length % 2 = 1) := by
  induction bytes with
  | nil => simp
  | cons b bs ih =>
    rw [xorFold_cons, BitVec.getLsbD_xor, ih]
    cases hb : b.getLsbD k with
    | false => simp [hb]
    | true =>
      rw [List.filter_cons_of_pos (p := fun x : Byte => x.getLsbD k) hb, List.length_cons, Bool.true_xor,
        ← decide_not]
      exact decide_eq_decide.2 (by omega)

/-- Sequences with the same parity at every bit have the same fold. -/
theorem xorFold_congr {bytes changed : Bytes}
    (h : ∀ k < 8, (bytes.filter fun x => x.getLsbD k).length % 2 = (changed.filter fun x => x.getLsbD k).length % 2) :
    xorFold bytes = xorFold changed :=
  BitVec.eq_of_getLsbD_eq fun k hk => by rw [getLsbD_xorFold, getLsbD_xorFold, h k hk]

/-- A change of one byte changes the fold by as much. -/
theorem xorFold_xor_byte (before after : Bytes) (b d : Byte) :
    xorFold (before ++ (b ^^^ d) :: after) = xorFold (before ++ b :: after) ^^^ d := by
  rw [xorFold_append, xorFold_append, xorFold_cons, xorFold_cons]
  ac_rfl

theorem ofNat_two_pow_ne_zero {k : Nat} (hk : k < 8) : BitVec.ofNat 8 (2 ^ k) ≠ 0 := by
  revert k
  decide

/-! ## What SUB.DEC accepts -/

variable (s : State)

theorem exists_frame_of_two_le {bytes : Bytes} (h : 2 ≤ bytes.length) :
    ∃ cid data chk, bytes = cid :: (data ++ [chk]) := by
  match bytes, h with
  | cid :: b :: rest, _ =>
    exact ⟨cid, (b :: rest).dropLast, _, by rw [List.dropLast_append_getLast (List.cons_ne_nil b rest)]⟩

/-- Data and checksum agree exactly when the whole frame folds to 0x00 (R79). -/
theorem xorFold_frame_eq_zero (cid : Byte) (data : Bytes) (chk : Byte) :
    xorFold (cid :: (data ++ [chk])) = 0 ↔ xorFold (cid :: data) = chk := by
  have hlast : xorFold [chk] = chk := by simp
  rw [← List.cons_append, xorFold_append, hlast]
  exact BitVec.xor_eq_zero_iff

/-- With 2 bytes or more SUB.DEC answers `OK` or raises `ChecksumMismatch`, as the fold of all of them says. -/
theorem exec_subDec_of_two_le {bytes : Bytes} (h : 2 ≤ bytes.length) : ∃ t, exec (.subDec bytes) s = .next t ∧
    if xorFold bytes = 0 then t.status = .ok else t.response = .raised .checksumMismatch := by
  obtain ⟨cid, data, chk, rfl⟩ := exists_frame_of_two_le h
  refine ⟨_, exec_subDec_frame s cid data chk, ?_⟩
  by_cases hchk : xorFold (cid :: data) = chk
  · rw [if_pos ((xorFold_frame_eq_zero cid data chk).2 hchk), if_pos hchk]
    rfl
  · rw [if_neg (mt (xorFold_frame_eq_zero cid data chk).1 hchk), if_neg hchk]
    rfl

theorem subDec_accepts_iff {bytes : Bytes} (h : 2 ≤ bytes.length) :
    (∃ t, exec (.subDec bytes) s = .next t ∧ t.status = .ok) ↔ xorFold bytes = 0 := by
  obtain ⟨t, ht, hanswer⟩ := exec_subDec_of_two_le s h
  constructor
  · rintro ⟨u, hu, hok⟩
    cases ht.symm.trans hu
    by_contra hfold
    rw [if_neg hfold] at hanswer
    cases hok.symm.trans (congrArg Response.status hanswer)
  · intro hfold
    rw [if_pos hfold] at hanswer
    exact ⟨t, ht, hanswer⟩

/-! ## XORFOLD -/

theorem exec_xorfold (bytes : Bytes) : ∃ t, exec (.xorfold bytes) s = .next t ∧
    t.response = ⟨.ok, [], .byte (xorFold bytes)⟩ ∧ t.inputs = s.inputs :=
  ⟨_, rfl, by simp, by simp⟩

theorem xorfold_result_eq_iff (bytes : Bytes) (b : Byte) :
    (∃ t, exec (.xorfold bytes) s = .next t ∧ t.result = .byte b) ↔ xorFold bytes = b := by
  obtain ⟨t, ht, hresponse, -⟩ := exec_xorfold s bytes
  have hresult : t.result = .byte (xorFold bytes) := congrArg Response.result hresponse
  simp [ht, hresult]

end Sys2Proof.Machine

open Sys2Proof Sys2Proof.Machine

/-- Settles O19: (a) is `exec_subDec_subFrameBytes`; (b), (c) and (d) are what zero, one odd and only even changes at
each bit do to the fold. -/
theorem subFrameLaws : Obligations.SubFrameLaws := by
  intro s
  refine ⟨?roundTrip, ?zeroSum, ?oneFlip, ?evenFlips⟩
  case roundTrip =>
    intro cid data
    obtain ⟨t, ht, hresponse, -⟩ := exec_subEnc s cid data
    have hobuf : t.obuf = subFrameBytes cid data := congrArg Response.obuf hresponse
    obtain ⟨u, hu, hust, hur⟩ := exec_subDec_subFrameBytes cid data t
    exact ⟨t, u, ht, by rw [hobuf, hu], hust, hur⟩
  case zeroSum =>
    intro bytes h
    rw [subDec_accepts_iff s h, xorfold_result_eq_iff]
  case oneFlip =>
    intro before after b k hk h haccepted
    have hzero : xorFold (before ++ b :: after) = 0 := (subDec_accepts_iff s h).1 haccepted
    obtain ⟨u, hu, hanswer⟩ := exec_subDec_of_two_le s
      (bytes := before ++ (b ^^^ BitVec.ofNat 8 (2 ^ k)) :: after) (by simpa using h)
    have hflip : xorFold (before ++ (b ^^^ BitVec.ofNat 8 (2 ^ k)) :: after) = BitVec.ofNat 8 (2 ^ k) := by
      rw [xorFold_xor_byte, hzero]
      exact BitVec.zero_xor
    rw [hflip, if_neg (ofNat_two_pow_ne_zero hk)] at hanswer
    exact ⟨u, hu, hanswer⟩
  case evenFlips =>
    intro bytes changed h hchanged hparity haccepted
    have hzero : xorFold bytes = 0 := (subDec_accepts_iff s h).1 haccepted
    exact (subDec_accepts_iff s hchanged).2 ((xorFold_congr hparity).symm.trans hzero)

/-- Settles O16: the answer is the fold, whose bits are parities. -/
theorem xorfoldGivesTheParityOfEachBit : Obligations.XorfoldGivesTheParityOfEachBit := by
  intro bytes s
  obtain ⟨t, ht, hresponse, hinputs⟩ := exec_xorfold s bytes
  exact ⟨t, xorFold bytes, ht, congrArg Response.status hresponse, congrArg Response.result hresponse, hinputs, rfl,
    fun k _ => getLsbD_xorFold bytes k⟩

end

section
/-! O1 to O6 and O49: reset, the step and the codes (10_state.md R13 to R19, 70_reset_and_hazards.md R170, R171). One
equation of `step` for each thing the host can do next. -/

namespace Sys2Proof.Machine

variable {s : State} {rest : List HostInput}

theorem step_of_waiting (h : s.inputs = []) : step s = .next s := by
  simp [step, State.nextInput, h]

theorem step_of_request {r : Request} (h : s.inputs = .request r :: rest) :
    step s = runRequest r { s with inputs := rest } := by
  simp [step, State.nextInput, h]

theorem step_of_reset (h : s.inputs = .reset :: rest) :
    step s = .next ({ s with inputs := rest } : State).applyReset := by
  simp [step, State.nextInput, h]

theorem step_of_resetDuring {r : Request} (h : s.inputs = .resetDuring r :: rest) :
    step s = .next ({ s with inputs := rest } : State).applyReset := by
  simp [step, State.nextInput, h]

theorem runRequest_of_decode {r : Request} {i : Instr} (s : State) (h : decode r = .ok i) :
    runRequest r s = exec i s := by
  simp [runRequest, h]

/-- A step that answers waits, resets, or runs the operation of the request presented. -/
theorem step_cases {t : State} (h : step s = .next t) :
    (s.inputs = [] ∧ t = s) ∨
    (∃ rest, (s.inputs = .reset :: rest ∨ ∃ r, s.inputs = .resetDuring r :: rest) ∧
      t = ({ s with inputs := rest } : State).applyReset) ∨
    ∃ r rest i, s.inputs = .request r :: rest ∧ decode r = .ok i ∧ exec i { s with inputs := rest } = .next t := by
  match hs : s.inputs with
  | [] =>
    cases (step_of_waiting hs).symm.trans h
    exact .inl ⟨rfl, rfl⟩
  | .reset :: rest =>
    cases (step_of_reset hs).symm.trans h
    exact .inr (.inl ⟨rest, .inl rfl, rfl⟩)
  | .resetDuring r :: rest =>
    cases (step_of_resetDuring hs).symm.trans h
    exact .inr (.inl ⟨rest, .inr ⟨r, rfl⟩, rfl⟩)
  | .request r :: rest =>
    rw [step_of_request hs] at h
    cases hd : decode r with
    | ok i => exact .inr (.inr ⟨r, rest, i, rfl, hd, (runRequest_of_decode _ hd).symm.trans h⟩)
    | error e => simp [runRequest, hd] at h

/-- The empty response has the shape of one. -/
theorem shaped_applyReset (u : State) : u.applyReset.Shaped := rfl

/-! ## The codes of `STATUS` -/

/-- The codes of the errors lie between those of `OK` and of the values never written (R13). -/
theorem ErrorKind.code_bounds (e : ErrorKind) : e.code ≠ 0 ∧ e.code ≠ 6 ∧ e.code ≠ 7 := by
  cases e <;> decide

theorem ErrorKind.code_injective : Function.Injective ErrorKind.code := by
  rintro ⟨⟩ ⟨⟩ <;> decide

end Sys2Proof.Machine

open Sys2Proof Sys2Proof.Machine

/-- Settles O1: the values are those `State.reset` and `State.applyReset` write, and no response reads the state an
operation starts from (`noResponseDependsOnEarlierOperations`). -/
theorem resetPutsEveryElementAtItsStartValue : Obligations.ResetPutsEveryElementAtItsStartValue := by
  refine ⟨⟨rfl, rfl, rfl, rfl, rfl, rfl⟩, step_of_waiting rfl, fun s rest h => ?_⟩
  refine ⟨_, step_of_reset h, rfl, rfl, rfl, rfl, rfl, rfl, rfl, fun i => ?_⟩
  exact (noResponseDependsOnEarlierOperations i s _).1

/-- Settles O2: the request goes with the reset, and `State.applyReset` leaves nothing of the operation. -/
theorem resetDuringAnOperationAbandonsIt : Obligations.ResetDuringAnOperationAbandonsIt :=
  fun _ _ _ h => ⟨_, step_of_resetDuring h, rfl, rfl, rfl, rfl, rfl, rfl, rfl, rfl⟩

/-- Settles O3: with no input the step is `step_of_waiting`. -/
theorem withoutARequestTheBlockWaits : Obligations.WithoutARequestTheBlockWaits :=
  fun _ => step_of_waiting

/-- Settles O4: the codes of the errors differ from one another, from `OK`'s and from 6 and 7. -/
theorem statusCodesAreThoseOfTheTable : Obligations.StatusCodesAreThoseOfTheTable := by
  refine ⟨rfl, rfl, rfl, rfl, rfl, rfl, ?unused, ?injective⟩
  case unused =>
    rintro (_ | e)
    · decide
    · exact e.code_bounds.2
  case injective =>
    rintro (_ | e) (_ | e') h
    · rfl
    · exact absurd h.symm e'.code_bounds.1
    · exact absurd h e.code_bounds.1
    · exact congrArg _ (ErrorKind.code_injective h)

/-- Settles O5: the map is searched for each selector; 0x39 has no row. -/
theorem writtenOutRequestsDecode : Obligations.WrittenOutRequestsDecode :=
  ⟨rfl, rfl, rfl, rfl, rfl, rfl⟩

/-- Settles O6: the step runs the request, and the request its operation. -/
theorem stepRunsTheDecodedOperation : Obligations.StepRunsTheDecodedOperation :=
  fun _ _ _ _ h hd => (step_of_request h).trans (runRequest_of_decode _ hd)

/-- Settles O49: STATUS `OK`, no result and no output. -/
theorem resetHasTheResponseShape : Obligations.ResetHasTheResponseShape := rfl

end

section
/-! O9, O46 to O48 and O50: what an operation can answer (30_encoding.md R50, 60_exceptions.md R155). An operation has
one of four forms of answer; `exec_answers` says once that it keeps to it and to its frame, and the invariants are read
off the forms. -/

namespace Sys2Proof.Machine

/-! ## The forms of an answer -/

/-- The forms of an answer, as the column "result when OK" of R48 groups them: bytes in `OBUF`, a command, the envelopes
of a scan, or a value with no output. -/
inductive AnswerForm where
  | bytes | command | envelopes | value

/-- The form of answer of each operation. -/
def answerForm : Instr → AnswerForm
  | .envEnc _ _ | .subEnc _ _ | .addrEnc _ | .taddrEnc _ | .spdPack _ _ | .fnPack _ _ | .trnPack _ _ _
  | .cmdWrap _ _ => .bytes
  | .pwrOn | .pwrOff | .verReq | .fwverReq | .locoInfo _ | .locoDrive _ _ _ _ | .locoFunc _ _ _ | .trnInfo _
  | .trnSet _ _ _ _ => .command
  | .envScan _ => .envelopes
  | .envDec _ | .xorfold _ | .subDec _ | .pct2mag _ _ | .ekind _ | .stepDec _ | .addrDec _ | .locoStat _ | .trnStat _
  | .sysTelem _ | .rfbDec _ => .value

/-- The responses of each form: an error is raised with nothing beside it, but that the envelopes of a scan stand beside
`FramingError` (R50, R155). -/
def AnswerForm.Allows (form : AnswerForm) (r : Response) : Prop :=
  match form with
  | .bytes => (∃ bs, bs ≠ [] ∧ r = ⟨.ok, bs, .output⟩) ∨ r = .raised .rangeError
  | .command => (∃ c, r = ⟨.ok, c.data, .command c⟩) ∨ r = .raised .rangeError
  | .envelopes => ∃ es : List Envelope, (∀ e ∈ es, e.payload.length ≤ 65531) ∧
      (r = ⟨.ok, [], .envelopes es⟩ ∨ r = ⟨.error .framingError, [], .envelopes es⟩)
  | .value => (∃ v, r = ⟨.ok, [], v⟩ ∧ r.Shaped) ∨ ∃ e, r = .raised e

theorem shaped_raised (e : ErrorKind) : (Response.raised e).Shaped := by
  cases e <;> rfl

theorem AnswerForm.Allows.shaped {form : AnswerForm} {r : Response} (h : form.Allows r) : r.Shaped := by
  cases form with
  | bytes =>
    obtain ⟨bs, hbs, rfl⟩ | rfl := h
    · exact hbs
    · exact shaped_raised _
  | command =>
    obtain ⟨c, rfl⟩ | rfl := h
    · exact .inl rfl
    · exact shaped_raised _
  | envelopes =>
    obtain ⟨es, hes, rfl | rfl⟩ := h
    · exact ⟨rfl, hes⟩
    · exact ⟨rfl, hes⟩
  | value =>
    obtain ⟨v, -, hshaped⟩ | ⟨e, rfl⟩ := h
    · exact hshaped
    · exact shaped_raised e

/-- An error has nothing beside it but the envelopes of a scan. -/
theorem AnswerForm.Allows.of_error {form : AnswerForm} {r : Response} {e : ErrorKind} (h : form.Allows r)
    (hst : r.status = .error e) : r.obuf = [] ∧ (form ≠ .envelopes → r.result = .none) := by
  cases form with
  | bytes =>
    obtain ⟨bs, -, rfl⟩ | rfl := h
    · cases hst
    · exact ⟨rfl, fun _ => rfl⟩
  | command =>
    obtain ⟨c, rfl⟩ | rfl := h
    · cases hst
    · exact ⟨rfl, fun _ => rfl⟩
  | envelopes =>
    obtain ⟨es, -, rfl | rfl⟩ := h
    · cases hst
    · exact ⟨rfl, fun hne => absurd rfl hne⟩
  | value =>
    obtain ⟨v, rfl, -⟩ | ⟨e, rfl⟩ := h
    · cases hst
    · exact ⟨rfl, fun _ => rfl⟩

/-! ### What each form leaves in `OBUF` -/

theorem AnswerForm.Allows.bytes_obuf {r : Response} (h : AnswerForm.bytes.Allows r) :
    (r.status = .ok ∧ r.result = .output ∧ r.obuf ≠ []) ∨ (r.status = .error .rangeError ∧ r.obuf = []) := by
  obtain ⟨bs, hbs, rfl⟩ | rfl := h
  · exact .inl ⟨rfl, rfl, hbs⟩
  · exact .inr ⟨rfl, rfl⟩

theorem AnswerForm.Allows.command_obuf {r : Response} (h : AnswerForm.command.Allows r) :
    (∃ c, r.status = .ok ∧ r.result = .command c ∧ r.obuf = c.data) ∨
      (r.status = .error .rangeError ∧ r.obuf = []) := by
  obtain ⟨c, rfl⟩ | rfl := h
  · exact .inl ⟨c, rfl, rfl, rfl⟩
  · exact .inr ⟨rfl, rfl⟩

theorem AnswerForm.Allows.envelopes_obuf {r : Response} (h : AnswerForm.envelopes.Allows r) : r.obuf = [] := by
  obtain ⟨es, -, rfl | rfl⟩ := h <;> rfl

theorem AnswerForm.Allows.value_obuf {r : Response} (h : AnswerForm.value.Allows r) : r.obuf = [] := by
  obtain ⟨v, rfl, -⟩ | ⟨e, rfl⟩ := h <;> rfl

theorem envScan_of_answerForm {i : Instr} (h : answerForm i = .envelopes) : ∃ buffer, i = .envScan buffer := by
  cases i with
  | envScan buffer => exact ⟨buffer, rfl⟩
  | _ => cases h

/-! ## The ends of an operation have a form -/

/-- The operation's answer has its form, and its frame is kept: the host's inputs stand and the counter of free values
moves on by one (entries 2 and 4). -/
structure Answers (form : AnswerForm) (s t : State) : Prop where
  response : form.Allows t.response
  inputs   : t.inputs = s.inputs
  freeTick : t.freeTick = s.freeTick + 1

/-- An operation on its way from `s`: what it has written to `OBUF`, and the frame kept. -/
structure UnderWay (s : State) (written : Bytes) (t : State) : Prop where
  obuf     : t.obuf = written
  inputs   : t.inputs = s.inputs
  freeTick : t.freeTick = s.freeTick

theorem underWay_start (s : State) (input : Bytes) : UnderWay s [] (s.start input) := ⟨rfl, rfl, rfl⟩

section
variable {s t : State} {written : Bytes}

theorem UnderWay.start (h : UnderWay s written t) (input : Bytes) : UnderWay s [] (t.start input) :=
  ⟨rfl, h.inputs, h.freeTick⟩

theorem UnderWay.setLen (h : UnderWay s written t) (n : Nat) : UnderWay s written (t.setLen n) :=
  ⟨h.obuf, h.inputs, h.freeTick⟩

theorem UnderWay.foldBytes (h : UnderWay s written t) (bs : Bytes) : UnderWay s written (t.foldBytes bs) :=
  ⟨by simp [h.obuf], by simp [h.inputs], by simp [h.freeTick]⟩

theorem UnderWay.memWrite (h : UnderWay s written t) (bs : Bytes) : UnderWay s (written ++ bs) (t.memWrite bs) :=
  ⟨congrArg (· ++ bs) h.obuf, h.inputs, h.freeTick⟩

theorem UnderWay.frameEnvelope (h : UnderWay s [] t) (kind : U16) :
    UnderWay s (envelopeBytes kind t.ibuf) (t.frameEnvelope kind) :=
  ⟨by simp [State.frameEnvelope_obuf, h.obuf], h.inputs, h.freeTick⟩

theorem UnderWay.frameCommand (h : UnderWay s [] t) (cid : Byte) :
    UnderWay s (cid :: t.ibuf ++ [t.acc ^^^ xorFold (cid :: t.ibuf)]) (t.frameCommand cid) :=
  ⟨by rw [State.frameCommand_obuf, h.obuf, List.nil_append], by simp [h.inputs], by simp [h.freeTick]⟩

theorem UnderWay.answers_respond (h : UnderWay s written t) {form : AnswerForm} {st : Status} {r : Result}
    (hform : form.Allows ⟨st, written, r⟩) : Answers form s (t.respond st r) :=
  ⟨by rwa [State.respond_response, h.obuf], h.inputs, congrArg (· + 1) h.freeTick⟩

/-- Raising discards what was written (R155). -/
theorem UnderWay.answers_raise (h : UnderWay s written t) {form : AnswerForm} {e : ErrorKind}
    (hform : form.Allows (.raised e)) : Answers form s (t.raise e) :=
  ⟨hform, h.inputs, congrArg (· + 1) h.freeTick⟩

theorem UnderWay.answers_finish_output (h : UnderWay s written t) (hwritten : written ≠ []) :
    Answers .bytes s (t.finish .output) :=
  h.answers_respond (.inl ⟨written, hwritten, rfl⟩)

theorem UnderWay.answers_output (h : UnderWay s [] t) {bs : Bytes} (hbs : bs ≠ []) : Answers .bytes s (t.output bs) :=
  (h.memWrite bs).answers_finish_output hbs

theorem UnderWay.answers_outputIf (h : UnderWay s [] t) {st : Status} {bs : Bytes} (hbs : bs ≠ [])
    (hst : ∀ e, st = .error e → e = .rangeError) : Answers .bytes s (t.outputIf st bs) := by
  cases st with
  | ok => exact h.answers_output hbs
  | error e => exact h.answers_raise (.inr (congrArg _ (hst e rfl)))

theorem UnderWay.answers_commandIf (h : UnderWay s [] t) {st : Status} (c : Command)
    (hst : ∀ e, st = .error e → e = .rangeError) : Answers .command s (t.commandIf st c) := by
  cases st with
  | ok => exact (h.memWrite c.data).answers_respond (.inl ⟨c, rfl⟩)
  | error e => exact h.answers_raise (.inr (congrArg _ (hst e rfl)))

theorem UnderWay.answers_finish (h : UnderWay s [] t) {v : Result} (hv : Response.Shaped ⟨.ok, [], v⟩) :
    Answers .value s (t.finish v) :=
  h.answers_respond (.inl ⟨v, rfl, hv⟩)

theorem UnderWay.answers_record (h : UnderWay s [] t) {r : Option Result}
    (hr : ∀ v, r = some v → Response.Shaped ⟨.ok, [], v⟩) : Answers .value s (t.record r) := by
  cases r with
  | none => exact h.answers_raise (.inr ⟨_, rfl⟩)
  | some v => exact h.answers_finish (hr v rfl)

end

/-! ## What the decoders find -/

/-- A decoded locomotive record has the shape R133 gives it. -/
theorem locoStatusOf_shape {c : Cfg} {bytes : Bytes} {l : LocoStatus} (h : locoStatusOf c bytes = some l) :
    (∀ t, l.functions = some t → t.length = 32) ∧ (l.speedPct.isSome → l.stepMode.isSome ∧ l.forward.isSome) := by
  unfold locoStatusOf at h
  split at h
  · cases h
    constructor
    · intro t ht
      obtain ⟨b4, hb4, -⟩ := Option.map_eq_some_iff.1 ht
      obtain ⟨f, hf, hlen, -⟩ := functionTable_entries hb4
      cases hf.symm.trans ht
      exact hlen
    · intro hpct
      obtain ⟨p, hp⟩ := Option.isSome_iff_exists.1 hpct
      obtain ⟨b3, hb3, hmap⟩ := Option.bind_eq_some_iff.1 hp
      obtain ⟨m, hm, -⟩ := Option.map_eq_some_iff.1 hmap
      exact ⟨Option.isSome_iff_exists.2 ⟨m, hm⟩, by simp [hb3]⟩
  · cases h

theorem scanBuffer_status (buffer : Bytes) :
    (scanBuffer buffer).2 = .ok ∨ (scanBuffer buffer).2 = .error .framingError := by
  cases h : (scanBuffer buffer).2 with
  | ok => exact .inl rfl
  | error e => exact .inr (congrArg _ ((scanBuffer_status_eq_error buffer e).1 h).1)

theorem scanBuffer_payload_le (buffer : Bytes) : ∀ e ∈ (scanBuffer buffer).1, e.payload.length ≤ 65531 := by
  induction buffer using scanBuffer.induct with
  | case1 => simp
  | case2 b bs hd => simp [scanBuffer_of_none (by simp) hd]
  | case3 b bs e n hd ih =>
    obtain ⟨-, -, hn, hpayload⟩ := envDecode_bounds hd
    rw [scanBuffer_of_some hd]
    exact List.forall_mem_cons.2 ⟨by omega, ih⟩

/-! ## Every operation has its form -/

variable {s t : State}

theorem answers_envDec {buffer : Bytes} (h : exec (.envDec buffer) s = .next t) : Answers .value s t := by
  cases hd : envDecode buffer with
  | none =>
    cases (exec_envDec_of_none s hd).symm.trans h
    exact (underWay_start s buffer).answers_raise (.inr ⟨_, rfl⟩)
  | some d =>
    obtain ⟨e, n⟩ := d
    cases (exec_envDec_of_some s hd).symm.trans h
    obtain ⟨-, -, hn, hpayload⟩ := envDecode_bounds hd
    exact ((underWay_start s buffer).setLen n).answers_finish ⟨rfl, hpayload.symm, hn⟩

theorem answers_envScan {buffer : Bytes} (h : exec (.envScan buffer) s = .next t) : Answers .envelopes s t := by
  cases h
  obtain ⟨hinputs, htick, hobuf⟩ := scanLoop_keeps buffer.length [] (s.start buffer)
  obtain ⟨hout, hst⟩ : (scanLoop buffer.length [] (s.start buffer)).1 = (scanBuffer buffer).1 ∧
      (scanLoop buffer.length [] (s.start buffer)).2.1 = (scanBuffer buffer).2 :=
    scanLoop_eq_scanBuffer buffer.length [] (s.start buffer) le_rfl
  have hway : UnderWay s [] (scanLoop buffer.length [] (s.start buffer)).2.2 := ⟨hobuf, hinputs, htick⟩
  rw [hout, hst]
  refine hway.answers_respond ⟨_, scanBuffer_payload_le buffer, ?_⟩
  obtain hok | hbad := scanBuffer_status buffer
  · exact .inl (congrArg (Response.mk · _ _) hok)
  · exact .inr (congrArg (Response.mk · _ _) hbad)

theorem answers_subDec {bytes : Bytes} (h : exec (.subDec bytes) s = .next t) : Answers .value s t := by
  by_cases hshort : bytes.length < 2
  · cases (exec_subDec_of_short s hshort).symm.trans h
    exact (underWay_start s bytes).answers_raise (.inr ⟨_, rfl⟩)
  · obtain ⟨cid, data, chk, rfl⟩ := exists_frame_of_two_le (Nat.le_of_not_lt hshort)
    have hway : UnderWay s [] ((s.start (cid :: (data ++ [chk]))).foldBytes (cid :: data)) :=
      (underWay_start s _).foldBytes _
    cases (exec_subDec_frame s cid data chk).symm.trans h
    split
    · exact hway.answers_finish (.inr rfl)
    · exact hway.answers_raise (.inr ⟨_, rfl⟩)

theorem answers_ekind {buffer : Bytes} (h : exec (.ekind buffer) s = .next t) : Answers .value s t := by
  cases hkind : (envDecode buffer).bind fun d => effectiveKind Config.cfg d.1 with
  | none =>
    cases (exec_ekind_of_none s hkind).symm.trans h
    exact (underWay_start s buffer).answers_raise (.inr ⟨_, rfl⟩)
  | some k =>
    cases (exec_ekind_of_some s hkind).symm.trans h
    exact (underWay_start s buffer).answers_finish rfl

theorem answers_stepDec {bytes : Bytes} (h : exec (.stepDec bytes) s = .next t) : Answers .value s t := by
  simp only [exec, execStepDec] at h
  split at h <;> cases h <;> exact (underWay_start s _).answers_finish rfl

theorem answers_addrDec {bytes : Bytes} (h : exec (.addrDec bytes) s = .next t) : Answers .value s t := by
  simp only [exec, execAddrDec] at h
  split at h <;> cases h
  · refine (underWay_start s _).answers_record fun v hv => ?_
    cases hv
    rfl
  · exact (underWay_start s _).answers_record fun v hv => nomatch hv

/-- What any operation does, once: its answer has its form, and its frame is kept. -/
theorem exec_answers {i : Instr} (h : exec i s = .next t) : Answers (answerForm i) s t := by
  have hway : ∀ input, UnderWay s [] (s.start input) := underWay_start s
  cases i with
  | envEnc kind payload =>
    cases eq_of_guarded_eq_next h
    exact ((hway payload).frameEnvelope kind).answers_finish_output (List.cons_ne_nil _ _)
  | subEnc cid data =>
    cases h
    exact ((hway data).frameCommand cid).answers_finish_output (List.cons_ne_nil _ _)
  | cmdWrap cid data =>
    cases eq_of_guarded_eq_next h
    exact ((((hway data).frameCommand cid).start _).frameEnvelope _).answers_finish_output (List.cons_ne_nil _ _)
  | addrEnc addr =>
    cases eq_of_guarded_eq_next h
    exact (hway []).answers_output (by simp [locoAddrPair, addrPair])
  | taddrEnc taddr =>
    cases h
    exact (hway []).answers_output (by simp [turnoutAddrPair, addrPair])
  | spdPack mag fwd =>
    cases h
    exact (hway []).answers_output (List.cons_ne_nil _ _)
  | fnPack action index =>
    cases eq_of_guarded_eq_next h
    exact (hway []).answers_outputIf (List.cons_ne_nil _ _) fun e he => ((indexStatus_eq_error index e).1 he).1
  | trnPack output activate queue =>
    cases h
    exact (hway []).answers_outputIf (List.cons_ne_nil _ _) fun e he => ((outputStatus_eq_error output e).1 he).1
  | pwrOn | pwrOff | verReq | fwverReq | trnInfo =>
    cases h
    exact (hway []).answers_commandIf _ nofun
  | locoInfo addr =>
    cases eq_of_guarded_eq_next h
    exact (hway []).answers_commandIf _ nofun
  | locoDrive mode addr mag fwd =>
    obtain ⟨m, -, hm⟩ := withMode_eq_next.1 h
    cases eq_of_guarded_eq_next hm
    exact (hway []).answers_commandIf _ nofun
  | locoFunc addr action index =>
    cases eq_of_guarded_eq_next h
    exact (hway []).answers_commandIf _ fun e he => ((indexStatus_eq_error index e).1 he).1
  | trnSet taddr output activate queue =>
    cases h
    exact (hway []).answers_commandIf _ fun e he => ((outputStatus_eq_error output e).1 he).1
  | envDec buffer => exact answers_envDec h
  | envScan buffer => exact answers_envScan h
  | subDec bytes => exact answers_subDec h
  | ekind buffer => exact answers_ekind h
  | stepDec bytes => exact answers_stepDec h
  | addrDec bytes => exact answers_addrDec h
  | xorfold bytes =>
    cases h
    exact ((hway bytes).foldBytes bytes).answers_finish rfl
  | pct2mag mode pct =>
    obtain ⟨m, -, hm⟩ := withMode_eq_next.1 h
    cases hm
    exact (hway []).answers_finish rfl
  | locoStat bytes =>
    cases h
    refine (hway bytes).answers_record fun v hv => ?_
    obtain ⟨l, hl, rfl⟩ := Option.map_eq_some_iff.1 hv
    exact ⟨rfl, locoStatusOf_shape hl⟩
  | trnStat bytes | sysTelem bytes | rfbDec bytes =>
    cases h
    refine (hway bytes).answers_record fun v hv => ?_
    obtain ⟨l, -, rfl⟩ := Option.map_eq_some_iff.1 hv
    rfl

/-! ## Which operations answer -/

/-- No operation faults: it answers or it is refused (60_exceptions.md R155, R158). -/
theorem exists_next_iff_not_refuses (o : Host.Outcome State Fault Refusal) : (∃ t, o = .next t) ↔ ¬Refuses o := by
  cases o with
  | next t => simp
  | fault f => cases f
  | refused f => simp

/-- The domain of R91 in the words of R158. -/
theorem legalLocoAddr_iff (addr : BitVec 14) : legalLocoAddr addr = true ↔ addr ≠ 0 ∧ addr.toNat ≤ 9999 := by
  have hzero : addr = 0 ↔ addr.toNat = 0 := BitVec.toNat_eq
  rw [legalLocoAddr, decide_eq_true_iff, Ne, hzero]
  omega

/-- The contract on an operation's own request is that on its operands; STEP.DEC's, which R158 does not name, is
entry 6's. -/
theorem not_outsideContract_encode (i : Instr) :
    ¬(encode i).outsideContract ↔ i.wellFormed = true ∨ ∃ bytes, i = .stepDec bytes := by
  cases i with
  | stepDec bytes => exact iff_of_true (by simp [Request.outsideContract, encode, selectors]) (.inr ⟨bytes, rfl⟩)
  | addrEnc | locoInfo | locoDrive | locoFunc =>
    simp [Request.outsideContract, encode, selectors, Instr.wellFormed, legalLocoAddr_iff, legalMode, legalAction]
  | _ => simp [Request.outsideContract, encode, selectors, Instr.wellFormed, legalMode, legalAction]

end Sys2Proof.Machine

open Sys2Proof Sys2Proof.Machine

/-- Settles O50: a step that answers waits, resets to the empty response, or answers in the operation's form, which has
the shape. -/
theorem everyStepKeepsTheResponseShape : Obligations.EveryStepKeepsTheResponseShape := by
  intro s t hs hstep
  obtain ⟨-, rfl⟩ | ⟨rest, -, rfl⟩ | ⟨r, rest, i, -, -, hexec⟩ := step_cases hstep
  · exact hs
  · exact shaped_applyReset _
  · exact (exec_answers hexec).response.shaped

/-- Settles O9: an operation that does not refuse answers, and it refuses outside its contract. -/
theorem answersExactlyInsideTheContract : Obligations.AnswersExactlyInsideTheContract := by
  intro i s
  rw [exists_next_iff_not_refuses, refuses_exec, not_outsideContract_encode]

/-- Settles O46: no form of answer puts anything beside an error but a scan its envelopes, and no operation reads what
the one before it left. -/
theorem anErrorLeavesNothingBehind : Obligations.AnErrorLeavesNothingBehind := by
  intro i s t e ht hst
  obtain ⟨hobuf, hresult⟩ := (exec_answers ht).response.of_error hst
  refine ⟨hobuf, fun hscan => hresult fun hform => ?_, fun j => (noResponseDependsOnEarlierOperations j s t).1⟩
  obtain ⟨buffer, hi⟩ := envScan_of_answerForm hform
  exact hscan buffer hi

/-- Settles O47: the frame is part of every answer. -/
theorem operationsLeaveTheHostsInputsAlone : Obligations.OperationsLeaveTheHostsInputsAlone :=
  fun _ _ _ ht => ⟨(exec_answers ht).inputs, (exec_answers ht).freeTick⟩

/-- Settles O48: the output is part of the response, which no earlier state reaches, and each form says what it is. -/
theorem outputHoldsOnlyWhatTheOperationWrites : Obligations.OutputHoldsOnlyWhatTheOperationWrites := by
  intro i s t ht
  constructor
  · intro s'
    obtain ⟨t', ht', hresponse⟩ := (noResponseDependsOnEarlierOperations i s s').1 t ht
    exact ⟨t', ht', congrArg Response.obuf hresponse⟩
  · have hform : (answerForm i).Allows t.response := (exec_answers ht).response
    cases i with
    | envEnc | subEnc | addrEnc | taddrEnc | spdPack | fnPack | trnPack | cmdWrap => exact hform.bytes_obuf
    | pwrOn | pwrOff | verReq | fwverReq | locoInfo | locoDrive | locoFunc | trnInfo | trnSet =>
      exact hform.command_obuf
    | envScan => exact hform.envelopes_obuf
    | envDec | xorfold | subDec | pct2mag | ekind | stepDec | addrDec | locoStat | trnStat | sysTelem | rfbDec =>
      exact hform.value_obuf

end

section
/-! O24, O36 and O39: operations run one after another. The documented percentages (42_field_encoders.md R95), ADDR.DEC
after ADDR.ENC (44_adjacent_decoders.md R132), and the pseudo-operations (30_encoding.md R58). -/

namespace Sys2Proof.Machine

variable (s : State)

/-! ## PCT2MAG at 128 steps -/

/-- `MAXMAG_128` is 128 (D16), so at 128 steps nothing of `Cfg` is left in the result. -/
theorem exec_pct2mag_s128 (pct : BitVec 8) :
    exec (.pct2mag 2 pct) s = .next ((s.start []).finish
      (.magnitude (magnitudeOfPct 128 (clampedPct pct)) (directionOfPct (clampedPct pct)))) := by
  have hmax : maxMagnitude Config.cfg .s128 = 128 := Config.supplied.decided.maxMag128_eq
  rw [← hmax]
  rfl

/-! ## ADDR.DEC -/

/-- The decoder drops the marker and puts the two bytes together again (R132). -/
theorem addrOfPair_addrPair (marked : Bool) (addr : BitVec 14) :
    ∃ b0 b1, addrPair marked addr = [b0, b1] ∧ addrOfPair b0 b1 = addr := by
  refine ⟨_, _, addrPair_eq_div_mod marked addr, BitVec.eq_of_toNat_eq ?_⟩
  have hlt := addr.isLt
  rw [addrOfPair_toNat, BitVec.toNat_ofNat, BitVec.toNat_ofNat]
  cases marked with
  | false => simp only [Bool.false_eq_true, if_false]; omega
  | true => simp only [if_true]; omega

theorem exec_addrDec_of_ne {bytes : Bytes} (h : bytes.length ≠ 2) :
    exec (.addrDec bytes) s = .next ((s.start bytes).raise .lengthError) := by
  match bytes, h with
  | [], _ | [_], _ | _ :: _ :: _ :: _, _ => rfl
  | [_, _], h => exact absurd rfl h

/-! ## SEND and LOCO.DRIVE.PCT -/

variable {s} {t : State}

/-- A builder that answers ends with its command, a few bytes long, or with the error its check gives (R110). -/
theorem builder_ends {b : BuilderCall} (h : exec b.instr s = .next t) :
    ∃ st c, t = (s.start []).commandIf st c ∧ c.data.length ≤ 4 := by
  cases b with
  | pwrOn | pwrOff | verReq | fwverReq | trnInfo | trnSet =>
    cases h
    exact ⟨_, _, rfl, by simp [turnoutAddrPair, addrPair]⟩
  | locoInfo | locoFunc =>
    exact ⟨_, _, eq_of_guarded_eq_next h, by simp [locoAddrPair, addrPair]⟩
  | locoDrive mode addr mag fwd =>
    obtain ⟨m, -, hm⟩ := withMode_eq_next.1 h
    exact ⟨_, _, eq_of_guarded_eq_next hm, by simp [locoAddrPair, addrPair]⟩

/-- A builder that answers `OK` has built a command CMD.WRAP takes. -/
theorem builder_command {b : BuilderCall} (h : exec b.instr s = .next t) (hst : t.status = .ok) :
    ∃ c, t.result = .command c ∧ c.data.length ≤ 65529 := by
  obtain ⟨st, c, rfl, hlen⟩ := builder_ends h
  rw [State.commandIf_status] at hst
  subst hst
  exact ⟨c, rfl, by omega⟩

theorem sendCommand_of_refused {b : BuilderCall} {f : Refusal} (h : exec b.instr s = .refused f) :
    sendCommand b s = .refused f := by
  simp [sendCommand, andThen, h]

theorem sendCommand_of_error {b : BuilderCall} {e : ErrorKind} (h : exec b.instr s = .next t)
    (hst : t.status = .error e) : sendCommand b s = .next t := by
  simp [sendCommand, andThen, h, hst]

theorem locoDrivePct_of_refused {mode : BitVec 2} {addr : BitVec 14} {pct : BitVec 8} {f : Refusal}
    (h : exec (.pct2mag mode pct) s = .refused f) : locoDrivePct mode addr pct s = .refused f := by
  simp [locoDrivePct, andThen, h]

/-- PCT2MAG raises nothing, so LOCO.DRIVE follows wherever it answers. -/
theorem locoDrivePct_of_magnitude {mode : BitVec 2} {addr : BitVec 14} {pct : BitVec 8} {mag : BitVec 7}
    {fwd : BitVec 1} (h : exec (.pct2mag mode pct) s = .next t) (hr : t.result = .magnitude mag fwd) :
    locoDrivePct mode addr pct s = exec (.locoDrive mode addr mag fwd) t := by
  have hst : t.status = .ok := by
    obtain ⟨m, -, hm⟩ := withMode_eq_next.1 h
    cases hm
    rfl
  simp [locoDrivePct, andThen, h, hst, hr]

/-! ## SUB.CHECK -/

theorem subCheck_fst (bytes : Bytes) (s : State) : (subCheck bytes s).1 = exec (.xorfold bytes) s := by
  obtain ⟨t, ht, -⟩ := exec_xorfold s bytes
  simp [subCheck, ht]

theorem subCheck_snd (bytes : Bytes) (s : State) :
    (subCheck bytes s).2 = true ↔ 2 ≤ bytes.length ∧ xorFold bytes = 0 := by
  obtain ⟨t, ht, hresponse, -⟩ := exec_xorfold s bytes
  have hresult : t.result = .byte (xorFold bytes) := congrArg Response.result hresponse
  simp [subCheck, ht, hresult]

end Sys2Proof.Machine

open Sys2Proof Sys2Proof.Machine

/-- Settles O36: what follows the first operation of a sequence is read off how that one ends. -/
theorem pseudoOperationsExpand : Obligations.PseudoOperationsExpand := by
  intro s
  refine ⟨?send, ?drivePct, fun _ _ _ => ⟨rfl, rfl⟩, ?check⟩
  case send =>
    intro b
    refine ⟨fun _ => sendCommand_of_refused, fun _ _ => sendCommand_of_error, fun t ht hst => ?_⟩
    obtain ⟨c, hc, hlen⟩ := builder_command ht hst
    obtain ⟨u, hu, -⟩ := exec_cmdWrap_of_le t c.commandId hlen
    exact ⟨c, u, hc, hu, (sendCommand_of_command ht hst hc).trans hu⟩
  case drivePct =>
    exact fun _ _ _ => ⟨fun _ => locoDrivePct_of_refused, fun _ _ _ => locoDrivePct_of_magnitude⟩
  case check =>
    exact fun bytes => ⟨subCheck_fst bytes s, by rw [subCheck_snd, xorfold_result_eq_iff]⟩

/-- Settles O24: with 128 for `MAXMAG_128` the formula gives the documented magnitudes. -/
theorem documentedPercentagesAt128Steps : Obligations.DocumentedPercentagesAt128Steps := by
  intro s
  refine ⟨?documented, ⟨_, exec_pct2mag_s128 s 1, rfl⟩, ⟨_, exec_pct2mag_s128 s (-1), rfl⟩⟩
  case documented =>
    intro pct mag fwd byte h
    simp only [List.mem_cons, List.not_mem_nil, Prod.mk.injEq, or_false] at h
    obtain ⟨rfl, rfl, rfl, rfl⟩ | ⟨rfl, rfl, rfl, rfl⟩ | ⟨rfl, rfl, rfl, rfl⟩ | ⟨rfl, rfl, rfl, rfl⟩ := h <;>
      exact ⟨_, _, exec_pct2mag_s128 s _, rfl, rfl, rfl, rfl, rfl⟩

/-- Settles O39: two bytes give an address, another number of them `LengthError`, and the pair of an address itself. -/
theorem addrDecDropsTheMarker : Obligations.AddrDecDropsTheMarker := by
  refine ⟨?twoBytes, ?otherLength, ?roundTrip⟩
  case twoBytes =>
    exact fun b0 b1 s => ⟨_, addrOfPair b0 b1, rfl, rfl, rfl, rfl, addrOfPair_toNat b0 b1⟩
  case otherLength =>
    exact fun bytes s h => ⟨_, exec_addrDec_of_ne s h, rfl, rfl⟩
  case roundTrip =>
    intro addr s haddr
    obtain ⟨b0, b1, hpair, hdec⟩ := addrOfPair_addrPair (decide (addrLongMin ≤ addr.toNat)) addr
    have hobuf : ((s.start []).output (locoAddrPair addr)).obuf = [b0, b1] := hpair
    refine ⟨_, _, exec_addrEnc_of_legal s haddr, by rw [hobuf]; rfl, congrArg Result.address hdec⟩

end
